-- ==== Sys2Proof/Word.lean ====
section
/-! DEFINITION. Word.lean: the widths of the values that cross the part's boundary. Values the manual treats as bits
(bytes, samples, stamps, signatures) are bit vectors; station addresses and group numbers are numbers 0..15. -/

namespace Sys2Proof

/-- One byte of a riser frame, of the configuration image or of a transport packet. -/
abbrev Byte := BitVec 8

/-- One sample of the converter, two's complement on SD11–SD0 (R193). -/
abbrev Sample := BitVec 12

/-- A sample stamp: a free-running 32-bit count of ES, all intervals modulo 2^32 (R44, R52). -/
abbrev Stamp := BitVec 32

/-- A packet signature: a CRC-16 (R59). -/
abbrev Signature := BitVec 16

/-- A station address, 0..15 (R177). -/
abbrev Address := Fin 16

/-- A group number, 0..15 (R185). -/
abbrev Group := Fin 16

/-- The 188 bytes of one transport packet (R57). -/
abbrev Packet := Vector Byte 188

end Sys2Proof
end

