-- ==== Sys2Proof/Syntax.lean ====
section
/-! DEFINITION. Syntax.lean: the commands of the block (one constructor of `Instr` per row of opcode_table.json) and the
types of their operands. The table gives its rows no fields; each operand below is what the rule named in its docstring says
the event carries across the part's boundary. -/

namespace Sys2Proof

/-- Symbol mode: short (2048 useful ES) or long (8192 useful ES). -/
inductive Mode where
  | short | long
  deriving DecidableEq, Repr

/-- Guard fraction g. -/
inductive GuardFraction where
  | quarter | eighth | sixteenth | thirtySecond
  deriving DecidableEq, Repr

/-- A candidate of R8: one pairing of a symbol mode with a guard fraction. -/
structure Candidate where
  mode  : Mode
  guard : GuardFraction
  deriving DecidableEq, Repr

/-- The constellations of R10. -/
inductive Constellation where
  | point4 | point16 | point64
  deriving DecidableEq, Repr

/-- The code rates of R10. -/
inductive CodeRate where
  | rate1_2 | rate2_3 | rate3_4 | rate5_6 | rate7_8
  deriving DecidableEq, Repr

/-- Decoded signalling: one constellation with one code rate (R10). -/
structure Signalling where
  constellation : Constellation
  rate          : CodeRate
  deriving DecidableEq, Repr

/-- A frame check report (R10): whether the sync word stood at its expected place, and the decoded signalling, `none` when
undecodable. -/
structure FrameReport where
  syncPresent : Bool
  signalling  : Option Signalling
  deriving DecidableEq, Repr

/-- What comes with a decoded packet: the uncorrectable indication (R57), and the order in which the parts of its event are
taken. With `recordLater` the record the service table hands on reaches its receiver only after the next command (R80, R148,
R170); with `reportLater` the GAU takes a report of ERROR_BURST only after the next command (R62). -/
structure PacketReport where
  uncorrectable : Bool
  recordLater   : Bool
  reportLater   : Bool
  deriving DecidableEq, Repr

/-- One peak of a profile update (R26): a delay in ES on the scale of the path list and a power in 0..65535. -/
structure Peak where
  delay : Int
  power : Fin 65536
  deriving DecidableEq, Repr

/-- The acquisition states (R1). -/
inductive AcqState where
  | idle | gain | symbol | frame | track | hold
  deriving DecidableEq, Repr

/-- The roles a STATUS frame can announce (R106: there is no code for YIELDING). -/
inductive AnnouncedRole where
  | absent | standby | taking | owner
  deriving DecidableEq, Repr, Inhabited

/-- An owner's handover phase, NONE outside OWNER (R159). -/
inductive Phase where
  | none | catchUp | drain | live
  deriving DecidableEq, Repr

/-- The service classes (R75). -/
inductive ServiceClass where
  | premium | standard | spare
  deriving DecidableEq, Repr

/-- The reasons of a YIELD (R94). -/
inductive YieldReason where
  | challenged | lockLost | belowFloor | duplicate
  deriving DecidableEq, Repr

/-- The six recovery causes, each present or absent (section 1.8). -/
structure CauseSet where
  frameLost         : Bool
  signallingChanged : Bool
  errorBurst        : Bool
  erasureBurst      : Bool
  windowJump        : Bool
  gainClipped       : Bool
  deriving DecidableEq, Repr

/-- A STATUS frame's fields (R105, R106). -/
structure StatusFrame where
  sender        : Address
  group         : Group
  role          : AnnouncedRole
  phase         : Phase
  acq           : AcqState
  clash         : Bool
  addressClash  : Bool
  configClamped : Bool
  merit         : Nat
  demand        : Nat
  floor         : Nat
  causes        : CauseSet
  fallsHold     : Nat
  fallsFrame    : Nat
  fallsSymbol   : Nat
  ringDepth     : Nat
  leadDepth     : Nat
  dropsPremium  : Nat
  dropsStandard : Nat
  dropsSpare    : Nat
  receiveErrors : Nat
  deriving DecidableEq, Repr

/-- A TAKE frame's fields (R106). -/
structure TakeFrame where
  sender : Address
  group  : Group
  merit  : Nat
  anchor : Option Signature
  deriving DecidableEq, Repr

/-- A YIELD frame's fields (R106). -/
structure YieldFrame where
  sender        : Address
  group         : Group
  lastSignature : Option Signature
  successor     : Option Address
  reason        : YieldReason
  deriving DecidableEq, Repr

/-- The header of a PAYLOAD frame: all that a receiving block is handed of it (R109). -/
structure PayloadHeader where
  sender    : Address
  group     : Group
  errored   : Bool
  cls       : ServiceClass
  outId     : Nat
  signature : Signature
  deriving DecidableEq, Repr

/-- The commands: one constructor per row of opcode_table.json, in the table's order.

Five rows carry an order, where the owning rule gives the outcome of each order: `symbolBoundary` (R65, R39: the window unit's
transfer before the blanker's verdict or after it), `reportExpiry` (R163: the share recomputed before the peer view is aged or
after it), `merMeasurement` and `syncFound` (R64, R11, R23: the symbol boundary they belong to, when it is still due, is taken
before them or after them), and `packetDecoded` (R62, R175: the packet's record and its report are taken within the step or
after the next command). -/
inductive Instr where
  | reset
  /-- R177: the four strap levels, ADDR3 (the first strap) the most significant bit. -/
  | resetEnd (straps : BitVec 4)
  | resetEnableCommand
  | resetCommand
  | recoveryWaitEnd
  /-- R181: the bytes the memory answers from address 0 on (beyond them the pull-up reads FFh, R179). -/
  | headerRead (data : List Byte)
  /-- R182: the bytes the memory answers from the record's address on (beyond them the pull-up reads FFh, R179). -/
  | recordRead (data : List Byte)
  | retryTimerExpiry
  /-- R44: the sample the converter delivers. -/
  | sample (d : Sample)
  | runEnd
  | overlongRun
  | predictionMiss
  | gainMeasurement
  | outputPeriodEnd
  | trialEnd
  | symbolBoundary (windowFirst : Bool)
  | framePass
  | holdLimit
  /-- R64: the MER of the symbol just ended, in 0.1 dB, before the demodulator's clamp to 0..400. -/
  | merMeasurement (mer : Int) (boundaryTaken : Bool)
  | profileUpdate (peaks : List Peak)
  | syncFound (boundaryTaken : Bool)
  | frameCheck (report : FrameReport)
  /-- R57: the 188 bytes as decoded, with the uncorrectable indication. -/
  | packetDecoded (bytes : Packet) (report : PacketReport)
  | reportExpiry (shareFirst : Bool)
  | admissionTick
  | handoverTimerExpiry
  /-- R85: the place in table order, from 0, of the entry whose hold runs out. -/
  | suspensionHoldEnd (entry : Nat)
  | addressClashHoldEnd
  | busIdle
  | startBit
  | arbitrationWon
  | arbitrationLost
  | readbackMismatch
  | frameSent
  /-- R109: every field of a STATUS frame that ended on the line. -/
  | statusReceived (frame : StatusFrame)
  | takeReceived (frame : TakeFrame)
  | yieldReceived (frame : YieldFrame)
  | payloadReceived (header : PayloadHeader)
  /-- R107: the bytes counted up to the end bit. -/
  | receiveError (bytes : List Byte)
  | silenceAssert
  | silenceRelease
  | handoverFlashEnd
  /-- R108: the bytes counted up to the end bit. -/
  | ownAddressFrame (bytes : List Byte)
  deriving DecidableEq, Repr

end Sys2Proof
end

