-- ==== Sys2Proof/Config.lean ====
section
/-! DEFINITION. Config.lean: the free values. Each is a constant with no body: nothing can be proved of what it is, and a
claim about the model is true whatever it is. -/

namespace Sys2Proof

/-- FREE VALUE (assumption log 3). R8 divides a candidate's highest accumulated correlation by the mean accumulated value,
and states no score when every accumulated value is 0. The first argument is the model's own counter of free values used. -/
opaque Config.nullTrialScore : Nat → Candidate → Nat

/-- FREE VALUE (assumption log 4). R105 says a STATUS whose content is taken while the role is YIELDING does not arise, and
gives that role no code; yet R135 leaves a STATUS that is in arbitration at the entry into YIELDING in arbitration. The
argument is the model's own counter of free values used. -/
opaque Config.yieldingRoleCode : Nat → AnnouncedRole

end Sys2Proof
end

