-- ==== Sys2Proof/WellFormed.lean ====
section
/-! DEFINITION. WellFormed.lean: the ranges the spec gives the operands of the commands, where their types do not already
keep them. No meaning depends on these checks being made first: a command that fails its check is an event the spec does not
describe. -/

namespace Sys2Proof

/-- The ranges a good STATUS frame keeps: the header check of R107 for merit, demand and floor, and the field widths of
R105 and R106 for the rest. -/
def StatusFrame.wf (f : StatusFrame) : Bool :=
  f.merit ≤ 1000 && f.demand ≤ 4095 && f.floor ≤ 4095
    && f.fallsHold ≤ 255 && f.fallsFrame ≤ 255 && f.fallsSymbol ≤ 255
    && f.ringDepth ≤ 255 && f.leadDepth ≤ 255
    && f.dropsPremium ≤ 255 && f.dropsStandard ≤ 255 && f.dropsSpare ≤ 255
    && f.receiveErrors ≤ 255

/-- A good TAKE carries a merit of at most 1000 (R107). -/
def TakeFrame.wf (f : TakeFrame) : Bool := f.merit ≤ 1000

/-- The output identifier of a PAYLOAD is a 13-bit field (R106). -/
def PayloadHeader.wf (h : PayloadHeader) : Bool := h.outId ≤ 8191

/-- A command's operands lie in the ranges the spec gives them: at most 8 peaks (R26), at most 32 service entries (R75),
frame fields in range (R106, R107). -/
def Instr.wellFormed : Instr → Bool
  | .profileUpdate peaks => peaks.length ≤ 8
  | .suspensionHoldEnd entry => entry < 32
  | .statusReceived f => f.wf
  | .takeReceived f => f.wf
  | .payloadReceived h => h.wf
  | .reset => true
  | .resetEnd _ => true
  | .resetEnableCommand => true
  | .resetCommand => true
  | .recoveryWaitEnd => true
  | .headerRead _ => true
  | .recordRead _ => true
  | .retryTimerExpiry => true
  | .sample _ => true
  | .runEnd => true
  | .overlongRun => true
  | .predictionMiss => true
  | .gainMeasurement => true
  | .outputPeriodEnd => true
  | .trialEnd => true
  | .symbolBoundary _ => true
  | .framePass => true
  | .holdLimit => true
  | .merMeasurement _ _ => true
  | .syncFound _ => true
  | .frameCheck _ => true
  | .packetDecoded _ _ => true
  | .reportExpiry _ => true
  | .admissionTick => true
  | .handoverTimerExpiry => true
  | .addressClashHoldEnd => true
  | .busIdle => true
  | .startBit => true
  | .arbitrationWon => true
  | .arbitrationLost => true
  | .readbackMismatch => true
  | .frameSent => true
  | .yieldReceived _ => true
  | .receiveError _ => true
  | .silenceAssert => true
  | .silenceRelease => true
  | .handoverFlashEnd => true
  | .ownAddressFrame _ => true

end Sys2Proof
end

