-- ==== Sys2Proof/Machine/State.lean ====
section
/-! DEFINITION. Machine/State.lean: every piece of state the spec gives the part, one structure per block, as plain data;
the reasons a step can stop; and the machine right after reset. -/

namespace Sys2Proof.Machine

/-- Why a step stops with a fault. It has no constructor: the spec names no event after which the part stops, and no meaning
of this model faults. -/
inductive Fault where
  deriving DecidableEq, Repr

/-- Why a step is refused. -/
inductive Refusal where
  /-- Raised by an arm of `exec` whose command has no meaning yet, with the command's mnemonic. Safe: the model stops where
  the hardware goes on. No arm raises it. -/
  | notModelled (mnemonic : String)
  deriving DecidableEq, Repr

/-! ## Configuration loader (chapter 10) -/

/-- Loader state (R178). -/
inductive LoaderState where
  | fetching | complete | configFault
  deriving DecidableEq, Repr

/-- Where a fetch stands: which transaction of R179 is on the configuration memory port, or which wait. In `idle` and
`recoveryWait` the select line is high. -/
inductive FetchStage where
  | idle | resetEnable | resetCommand | recoveryWait | headerRead
  | recordRead (address : Nat)
  deriving DecidableEq, Repr

/-- Record kinds (R180). -/
inductive RecordKind where
  | station | reception | service | share
  deriving DecidableEq, Repr

/-- A good record kept by the chain walk (R182). -/
structure Record where
  kind    : RecordKind
  payload : List Byte
  deriving DecidableEq, Repr

structure Loader where
  /-- R178. -/
  state       : LoaderState
  /-- R179. -/
  stage       : FetchStage
  /-- Station address from the straps (R177). -/
  address     : Address
  /-- Image length from the header of the present fetch (R180). -/
  imageLength : Nat
  /-- Good records of the present fetch, in chain order (R182). -/
  kept        : List Record
  /-- Record count, 0..41 (R182). -/
  recordCount : Nat
  /-- Configuration-clamped flag (R186). -/
  clamped     : Bool
  /-- Retry timer in ms, `none` when stopped (R184). -/
  retryTimer  : Option Nat
  deriving DecidableEq, Repr

/-- Erase fraction q (R44, R185). -/
inductive EraseFraction where
  | eighth | sixteenth | thirtySecond
  deriving DecidableEq, Repr

/-- The configuration values (R185), settled when the fetch completes. -/
structure Configuration where
  group            : Group
  reportPeriod     : Nat
  silenceLimit     : Nat
  hysteresis       : Nat
  challengeLimit   : Nat
  meritFloor       : Nat
  handoverTimeout  : Nat
  catchUpLimit     : Nat
  pinned           : Option Candidate
  slew             : Nat
  peakThreshold    : Nat
  impulseThreshold : Nat
  runEnd           : Nat
  eraseFraction    : EraseFraction
  holdLimit        : Nat
  detectThreshold  : Nat
  budget           : Nat
  floor            : Nat
  burst            : Nat
  deriving DecidableEq, Repr

/-! ## Gain and Acquisition Unit (chapter 1) -/

/-- The running RMS level, held exactly (assumption log 5): the RMS magnitude at the target level of −15.0 dB, or the root of
`energy / count` of a measured block's samples that were not blanked (R2). -/
inductive RmsLevel where
  | target
  | measured (energy count : Nat)
  deriving DecidableEq, Repr

/-- Sub-states of FRAME (section 1.5). -/
inductive FrameSubState where
  | search | confirm
  deriving DecidableEq, Repr

structure Gau where
  /-- R1. -/
  acq              : AcqState
  /-- R3, R4. -/
  appliedDuty      : Nat
  pendingDuty      : Nat
  /-- A pending duty has been computed since the last transfer (R4). -/
  transferPending  : Bool
  /-- R2. -/
  rms              : RmsLevel
  /-- Samples, blanked samples and sum of squares of the block in progress (R2). -/
  blockCount       : Nat
  blockBlanked     : Nat
  blockEnergy      : Nat
  /-- R5. -/
  clipRun          : Nat
  /-- R7. -/
  measurementCount : Nat
  settleRun        : Nat
  noSignalRestarts : Nat
  /-- R9. -/
  failedTrials     : Nat
  /-- The samples of the trial in progress, position 0 first (R8). -/
  trialSamples     : Array Sample
  /-- Held mode and guard (R9), handed to the window unit and the blanker (R20). -/
  held             : Option Candidate
  /-- R11, R12. -/
  subState         : FrameSubState
  passCount        : Nat
  searchCount      : Nat
  candidate        : Option Signalling
  /-- Current signalling (R12). -/
  current          : Option Signalling
  /-- R14. -/
  syncMissRun      : Nat
  /-- R16. -/
  holdCount        : Nat
  /-- Recovery cause set and carried marks (R17). -/
  causes           : CauseSet
  carried          : CauseSet
  /-- Fall-back record (R19). -/
  fallsHold        : Nat
  fallsFrame       : Nat
  fallsSymbol      : Nat
  deriving DecidableEq, Repr

/-! ## Impulse blanker (chapter 3) -/

/-- Run state (R46). -/
inductive RunState where
  | quiet | blanking
  deriving DecidableEq, Repr

/-- Impulse prediction (section 3.5). -/
inductive Prediction where
  | unarmed
  | armed (period anchor : Stamp) (misses : Nat)
  deriving DecidableEq, Repr

/-- What has become of the miss at the sample of stamp (predicted start + 65), so that each arrival of that sample counts one
miss at most (R55): nothing; taken ahead of the next sample, which is that one; or owed, since the sample last judged was that
one (assumption log 8). -/
inductive MissMark where
  | none | taken | owed
  deriving DecidableEq, Repr

structure Blanker where
  /-- R44: the stamp the next sample takes. -/
  stamp         : Stamp
  /-- The last sample as it left the blanker, zeroed or unaltered (R56). -/
  out           : Sample
  /-- R46. -/
  runState      : RunState
  quietCount    : Nat
  runLength     : Nat
  /-- R47. -/
  suspended     : Bool
  /-- R48. -/
  blankedCount  : Nat
  /-- The first symbol boundary after the candidate choice is still to come (R48). -/
  firstBoundary : Bool
  /-- R50. -/
  burstRun      : Nat
  /-- Impulse history, oldest first (R51). -/
  history       : List Stamp
  /-- R53. -/
  prediction    : Prediction
  /-- R55. -/
  miss          : MissMark
  deriving DecidableEq, Repr

/-! ## Window unit (chapter 2) -/

/-- The timing grid (R21): grid points fall at the sample positions congruent to `peak` modulo `period`; `position` is the
position, modulo `period`, of the next sample. `taken` says that the symbol boundary at that sample has been taken already. -/
structure Grid where
  peak     : Nat
  period   : Nat
  position : Nat
  taken    : Bool
  deriving DecidableEq, Repr

/-- States of a path list entry (R25). -/
inductive PathState where
  | new | confirmed | fading
  deriving DecidableEq, Repr

/-- A path list entry (R25). -/
structure Path where
  delay : Int
  power : Nat
  state : PathState
  age   : Nat
  deriving DecidableEq, Repr

/-- Mark of the pending position (R37). -/
inductive PendingMark where
  | none | step | jump
  deriving DecidableEq, Repr

structure Window where
  /-- R21. -/
  grid         : Option Grid
  /-- R22. -/
  symbolIndex  : Nat
  frameCounter : Nat
  /-- A preset was made for a boundary whose own advance is still to come (R23). -/
  presetDue    : Bool
  /-- Path list, ascending delay (R25). -/
  paths        : List Path
  /-- R27. -/
  erasedCount  : Nat
  /-- R37, R38. -/
  applied      : Int
  pendingPos   : Int
  mark         : PendingMark
  deriving DecidableEq, Repr

/-! ## Packet recovery unit (chapter 4) -/

/-- The symbol slot (R64): the reports received for one symbol. `ahead` says that its MER came before the boundary that
ended the symbol was taken. -/
structure SymbolSlot where
  mer     : Option Nat
  /-- `some true` is erased, `some false` is clean. -/
  verdict : Option Bool
  ahead   : Bool
  deriving DecidableEq, Repr

/-- The six quality tallies (R66). -/
structure Tallies where
  merSum         : Nat
  cleanSymbols   : Nat
  allSymbols     : Nat
  erasedSymbols  : Nat
  allPackets     : Nat
  erroredPackets : Nat
  deriving DecidableEq, Repr

structure Pru where
  /-- R61. -/
  errorRun   : Nat
  slot       : SymbolSlot
  tallies    : Tallies
  /-- R72, R73. -/
  smoothed   : Nat
  fresh      : Bool
  /-- Constellation and rate handed over at the last entry into TRACK (R20, R68). -/
  signalling : Option Signalling
  deriving DecidableEq, Repr

/-! ## Service table (chapter 5) -/

/-- Mode of a service entry with its offset or fixed value (R75). -/
inductive ServiceMode where
  | keep
  | offset (n : Nat)
  | fixed (v : Nat)
  deriving DecidableEq, Repr

/-- Suspension state (R75): the hold time is in ms. -/
inductive Suspension where
  | active
  | suspended (holdMs : Nat)
  deriving DecidableEq, Repr

/-- A service entry (R75). -/
structure ServiceEntry where
  first      : Nat
  count      : Nat
  mode       : ServiceMode
  cls        : ServiceClass
  suspension : Suspension
  thisPeriod : Bool
  lastPeriod : Bool
  deriving DecidableEq, Repr

/-! ## Riser interface (chapter 6) -/

/-- Bus view (R90). -/
inductive BusView where
  | idle | busy
  deriving DecidableEq, Repr

/-- Content of the YIELD slot, fixed at the request (R94). -/
structure YieldRequest where
  group     : Group
  successor : Option Address
  reason    : YieldReason
  deriving DecidableEq, Repr

/-- Content of the TAKE slot, fixed at the request (R94). -/
structure TakeRequest where
  group  : Group
  merit  : Nat
  anchor : Option Signature
  deriving DecidableEq, Repr

/-- An entry of a payload queue (R96). -/
structure QueueEntry where
  bytes     : Packet
  outId     : Nat
  cls       : ServiceClass
  errored   : Bool
  signature : Signature
  deriving DecidableEq, Repr

/-- A frame with its content, as R98 takes it. -/
inductive Frame where
  | status (f : StatusFrame)
  | take (f : TakeFrame)
  | yield (f : YieldFrame)
  | payload (h : PayloadHeader) (packet : Packet)
  deriving DecidableEq, Repr

/-- The frame selected at an attempt (R97). -/
inductive Selection where
  | yield | take | status
  | payload (cls : ServiceClass)
  deriving DecidableEq, Repr

/-- What the station is doing on the line: nothing, the arbitration byte of a selected frame (R92), or the rest of a frame
that won (R98). -/
inductive Transmission where
  | silent
  | arbitrating (sel : Selection)
  | transmitting (f : Frame)
  deriving DecidableEq, Repr

/-- A count that STATUS reports and that is reduced by its carried value at completion (R103, R104). -/
structure ReportedCount where
  count   : Nat
  carried : Option Nat
  deriving DecidableEq, Repr

structure Riser where
  /-- R90. -/
  busView       : BusView
  /-- The bus view has been IDLE since the end of reset, so that good frames are compared with the address (R177). -/
  heardIdle     : Bool
  /-- Control slots (R94). -/
  yieldSlot     : Option YieldRequest
  takeSlot      : Option TakeRequest
  statusSlot    : Bool
  /-- Payload queues, head first (R96). -/
  premium       : List QueueEntry
  standard      : List QueueEntry
  spare         : List QueueEntry
  /-- R92, R98. -/
  tx            : Transmission
  /-- R102. -/
  lastSent      : Option Signature
  /-- R103. -/
  dropsPremium  : ReportedCount
  dropsStandard : ReportedCount
  dropsSpare    : ReportedCount
  /-- R104. -/
  receiveErrors : ReportedCount
  clashFlag     : Bool
  clashCarried  : Bool
  /-- Address clash hold in ms, `none` when no hold stands (R110, R111). -/
  clashHold     : Option Nat
  deriving DecidableEq, Repr

/-! ## Ownership unit (chapter 7) -/

/-- Roles (R120). -/
inductive Role where
  | absent | standby | taking | owner | yielding
  deriving DecidableEq, Repr

/-- Liveness of a peer view entry (R118). -/
inductive Liveness where
  | live | stale
  deriving DecidableEq, Repr

/-- A peer view entry (R116). -/
structure Peer where
  address       : Address
  group         : Group
  role          : AnnouncedRole
  acq           : AcqState
  merit         : Nat
  demand        : Nat
  floor         : Nat
  lastSignature : Option Signature
  age           : Nat
  liveness      : Liveness
  deriving DecidableEq, Repr

structure Ownership where
  /-- Report timer in ms, `none` when stopped (R114). -/
  reportTimer       : Option Nat
  /-- Peer view, ascending address (R116). -/
  peers             : List Peer
  /-- R119. -/
  lastPayloadSender : Option Address
  /-- R115. -/
  emptyMark         : Bool
  previousMark      : Bool
  /-- R120. -/
  role              : Role
  challengeCount    : Nat
  /-- Handover timer in ms, `none` when stopped (R124, R127, R130). -/
  handoverTimer     : Option Nat
  deriving DecidableEq, Repr

/-! ## Hold-back unit (chapter 8) -/

/-- An entry of the hold-back ring (R139). -/
structure RingEntry where
  signature : Signature
  outId     : Nat
  cls       : ServiceClass
  errored   : Bool
  stamp     : Nat
  bytes     : Packet
  deriving DecidableEq, Repr

structure HoldBack where
  /-- Oldest first (R139, R141). -/
  ring         : List RingEntry
  lead         : List Signature
  /-- R144. -/
  lastReleased : Option Signature
  /-- R159. -/
  phase        : Phase
  /-- R152. -/
  catchUpCount : Nat
  deriving DecidableEq, Repr

/-- The block a forwardable record is handed to (R80). -/
inductive Route where
  | holdBack | admission
  deriving DecidableEq, Repr

/-- What a packet's event has handed on and its receiver has not yet taken: a forwardable record on its way from the service
table (R80, R148, R170), and a report of ERROR_BURST on its way to the GAU (R62). -/
structure Waiting where
  record : Option (Route × RingEntry)
  burst  : Bool
  deriving DecidableEq, Repr

/-! ## Share and admission unit (chapter 9) -/

structure Admission where
  /-- R161. -/
  offered : Nat
  /-- R162. -/
  demand  : Nat
  /-- R163, R164. -/
  share   : Nat
  /-- Credit in hundredths of a packet (R167). -/
  credit  : Int
  /-- The 1 ms admission tick runs (R168). -/
  ticking : Bool
  deriving DecidableEq, Repr

/-! ## Indicator unit (chapter 11) -/

/-- LAMP patterns (R188). -/
inductive LampPattern where
  | doubleFlash | steady | fastBlink | slowBlink | intermittent | off
  deriving DecidableEq, Repr

structure Indicator where
  /-- Base pattern shown (R189). -/
  pattern     : LampPattern
  /-- Handover flash in ms, `none` when none runs (R191). -/
  flash       : Option Nat
  /-- MODEL'S OWN: how many times a base pattern has been started at the beginning of its cycle (R190). -/
  cycleStarts : Nat
  deriving DecidableEq, Repr

/-! ## The station -/

/-- The whole state of one station. -/
structure State where
  /-- MODEL'S OWN: the commands waiting, first in, first out. -/
  pending   : List Instr
  /-- MODEL'S OWN: how many free values have been used (assumption log 3, 4). -/
  freeCount : Nat
  /-- The level of the RESET pin: held low (R193). -/
  resetLow  : Bool
  /-- The level of the SILENCE pin (R193). -/
  silence   : Bool
  loader    : Loader
  cfg       : Configuration
  gau       : Gau
  ib        : Blanker
  wu        : Window
  pru       : Pru
  /-- Service table, in table order (R75). -/
  services  : List ServiceEntry
  /-- R62, R80, R148, R170. -/
  waiting   : Waiting
  ri        : Riser
  ou        : Ownership
  hbu       : HoldBack
  sau       : Admission
  iu        : Indicator
  deriving DecidableEq, Repr

/-! ## Reset values -/

/-- R177, R178, R182, R184, R186. The station address before the straps are first sampled is DESIGN CHOICE 0
(assumption log 6). -/
def Loader.reset : Loader :=
  { state := .fetching, stage := .idle, address := 0, imageLength := 0, kept := [], recordCount := 0,
    clamped := false, retryTimer := none }

/-- The values before a fetch completes, which no rule reads (assumption log 6): the defaults of R185 for RECEPTION and
SHARE, and for STATION the values R185 calls usual, with group 0. DESIGN CHOICE. -/
def Configuration.reset : Configuration :=
  { group := 0, reportPeriod := 100, silenceLimit := 4, hysteresis := 50, challengeLimit := 3, meritFloor := 200,
    handoverTimeout := 50, catchUpLimit := 64, pinned := none, slew := 8, peakThreshold := 1024,
    impulseThreshold := 32, runEnd := 32, eraseFraction := .sixteenth, holdLimit := 32, detectThreshold := 48,
    budget := 6000, floor := 0, burst := 8 }

/-- No cause present (R17). -/
def noCauses : CauseSet :=
  { frameLost := false, signallingChanged := false, errorBurst := false, erasureBurst := false,
    windowJump := false, gainClipped := false }

/-- The table "Reset values of GAU state". -/
def Gau.reset : Gau :=
  { acq := .idle, appliedDuty := 512, pendingDuty := 512, transferPending := false, rms := .target,
    blockCount := 0, blockBlanked := 0, blockEnergy := 0, clipRun := 0, measurementCount := 0, settleRun := 0,
    noSignalRestarts := 0, failedTrials := 0, trialSamples := #[], held := none, subState := .search,
    passCount := 0, searchCount := 0, candidate := none, current := none, syncMissRun := 0, holdCount := 0,
    causes := noCauses, carried := noCauses, fallsHold := 0, fallsFrame := 0, fallsSymbol := 0 }

/-- The table "Reset values of IB state". The last sample out is DESIGN CHOICE 0 and the run length outside a run is
DESIGN CHOICE 0 (assumption log 6). -/
def Blanker.reset : Blanker :=
  { stamp := 0, out := 0, runState := .quiet, quietCount := 0, runLength := 0, suspended := false,
    blankedCount := 0, firstBoundary := false, burstRun := 0, history := [], prediction := .unarmed,
    miss := .none }

/-- The table "Reset values of WU state". -/
def Window.reset : Window :=
  { grid := none, symbolIndex := 0, frameCounter := 0, presetDue := false, paths := [], erasedCount := 0,
    applied := 0, pendingPos := 0, mark := .none }

/-- The empty symbol slot (R64). -/
def SymbolSlot.empty : SymbolSlot := { mer := none, verdict := none, ahead := false }

/-- All six tallies at 0 (R67). -/
def Tallies.zero : Tallies :=
  { merSum := 0, cleanSymbols := 0, allSymbols := 0, erasedSymbols := 0, allPackets := 0, erroredPackets := 0 }

/-- The table "Reset values of PRU state". -/
def Pru.reset : Pru :=
  { errorRun := 0, slot := .empty, tallies := .zero, smoothed := 0, fresh := true, signalling := none }

/-- A reported count at 0 with no carried value (R103). -/
def ReportedCount.zero : ReportedCount := { count := 0, carried := none }

/-- The table "Reset values of RI state". -/
def Riser.reset : Riser :=
  { busView := .busy, heardIdle := false, yieldSlot := none, takeSlot := none, statusSlot := false, premium := [], standard := [],
    spare := [], tx := .silent, lastSent := none, dropsPremium := .zero, dropsStandard := .zero,
    dropsSpare := .zero, receiveErrors := .zero, clashFlag := false, clashCarried := false, clashHold := none }

/-- The table "Reset values of OU state". -/
def Ownership.reset : Ownership :=
  { reportTimer := none, peers := [], lastPayloadSender := none, emptyMark := false, previousMark := false,
    role := .absent, challengeCount := 0, handoverTimer := none }

/-- R160. -/
def HoldBack.reset : HoldBack :=
  { ring := [], lead := [], lastReleased := none, phase := .none, catchUpCount := 0 }

/-- The table "Reset values of SAU state". -/
def Admission.reset : Admission := { offered := 0, demand := 0, share := 0, credit := 0, ticking := false }

/-- R189, R191. -/
def Indicator.reset : Indicator := { pattern := .off, flash := none, cycleStarts := 0 }

/-- Nothing has been handed on that its receiver has not taken. -/
def nothingWaits : Waiting := { record := none, burst := false }

/-- The machine right after reset: RESET is (still) low, every block stands at its reset values, and the next event is the
end of reset (R177, R178, R193). SILENCE is released, as for an unconnected pin (R193; assumption log 6). -/
def State.reset : State :=
  { pending := [], freeCount := 0, resetLow := true, silence := false, loader := .reset, cfg := .reset,
    gau := .reset, ib := .reset, wu := .reset, pru := .reset, services := [],
    waiting := nothingWaits, ri := .reset, ou := .reset,
    hbu := .reset, sau := .reset, iu := .reset }

end Sys2Proof.Machine
end

