-- ==== Sys2Proof/Machine/Ops.lean ====
section
/-! DEFINITION. Machine/Ops.lean: the arithmetic, list and CRC operations the blocks share, the figures of a candidate, and
leave to transmit. -/

namespace Sys2Proof.Machine

/-! ## Clamping and saturation (Units and Conventions) -/

/-- A value outside the range is replaced by the nearer end. -/
def clampNat (lo hi x : Nat) : Nat := if x < lo then lo else if hi < x then hi else x

/-- A value outside the range is replaced by the nearer end. -/
def clampInt (lo hi x : Int) : Int := if x < lo then lo else if hi < x then hi else x

/-- A counter that saturates at its maximum and does not wrap. -/
def satAdd (top x n : Nat) : Nat := min top (x + n)

/-! ## Lists -/

/-- What stands behind the first element that satisfies `p`, `none` when no element does: a match removes itself and every
element older than it (R144, R146). -/
def dropThrough {α : Type} (p : α → Bool) : List α → Option (List α)
  | [] => none
  | x :: rest => if p x then some rest else dropThrough p rest

/-- The list up to and including the last element that satisfies `p` (R151, lead list). -/
def keepThroughLast {α : Type} (p : α → Bool) (l : List α) : List α :=
  (l.reverse.dropWhile fun x => !p x).reverse

/-- The first best element of a list under a strict order `better`. -/
def bestOf {α : Type} (better : α → α → Bool) : List α → Option α
  | [] => none
  | x :: rest =>
    match bestOf better rest with
    | none => some x
    | some y => if better y x then some y else some x

/-- Inserts before the first element that `before x y` says comes after it: a structural insertion. -/
def insertBefore {α : Type} (before : α → α → Bool) (x : α) : List α → List α
  | [] => [x]
  | y :: rest => if before x y then x :: y :: rest else y :: insertBefore before x rest

/-- A list sorted by repeated insertion. -/
def sortBy {α : Type} (before : α → α → Bool) (l : List α) : List α :=
  l.foldr (insertBefore before) []

/-! ## CRC-16 (R59) -/

/-- One bit into the register: generator x^16 + x^12 + x^5 + 1. -/
def crcBit (c : BitVec 16) (b : Bool) : BitVec 16 :=
  if xor c.msb b then (c <<< 1) ^^^ 0x1021#16 else c <<< 1

/-- One byte into the register, most significant bit first. -/
def crcByte (c : BitVec 16) (b : Byte) : BitVec 16 :=
  [7, 6, 5, 4, 3, 2, 1, 0].foldl (fun c i => crcBit c (b.getLsbD i)) c

/-- The CRC-16 of a run of bytes: register preset to all ones, first byte first, no inversion. -/
def crc16 (bytes : List Byte) : Signature := bytes.foldl crcByte 0xFFFF#16

/-! ## Candidates (R8, Units and Conventions) -/

/-- Useful length N in ES. -/
def usefulLength (c : Candidate) : Nat :=
  match c.mode with
  | .short => 2048
  | .long => 8192

/-- Guard length G = N × g in ES. -/
def guardLength (c : Candidate) : Nat :=
  match c.guard with
  | .quarter => usefulLength c / 4
  | .eighth => usefulLength c / 8
  | .sixteenth => usefulLength c / 16
  | .thirtySecond => usefulLength c / 32

/-- Spacing of the grid points, N + G (R21). -/
def symbolLength (c : Candidate) : Nat := usefulLength c + guardLength c

/-- The eight candidates in their fixed order (R8). -/
def candidates : List Candidate :=
  [⟨.short, .quarter⟩, ⟨.short, .eighth⟩, ⟨.short, .sixteenth⟩, ⟨.short, .thirtySecond⟩,
   ⟨.long, .quarter⟩, ⟨.long, .eighth⟩, ⟨.long, .sixteenth⟩, ⟨.long, .thirtySecond⟩]

/-! ## Acquisition states -/

/-- An acquisition state below HOLD (R1). -/
def belowHold : AcqState → Bool
  | .idle | .gain | .symbol | .frame => true
  | .track | .hold => false

/-! ## Leave to transmit -/

/-- The station may start frames: SILENCE is released and no address clash hold stands (R91). -/
def mayTransmit (s : State) : Bool := !s.silence && s.ri.clashHold.isNone

end Sys2Proof.Machine
end

