-- ==== Sys2Proof/Machine/Operands.lean ====
section
/-! DEFINITION. Machine/Operands.lean: the records that cross the part's boundary as bytes: riser frames (R106), the receive
checks over them (R107), and the image header, record headers and payload fields of the configuration memory (R180, R185), with
the levels of the configuration memory port (R179). -/

namespace Sys2Proof.Machine

/-! ## Bytes and multi-byte fields, most significant byte first -/

/-- Byte `i` of what the memory answers; beyond its answer the pull-up reads FFh (R179). -/
def byteAt (data : List Byte) (i : Nat) : Byte := data.getD i 0xFF#8

/-- The value of byte `i`. -/
def u8At (data : List Byte) (i : Nat) : Nat := (byteAt data i).toNat

/-- A 2-byte field. -/
def u16At (data : List Byte) (i : Nat) : Nat := u8At data i * 256 + u8At data (i + 1)

/-- A 3-byte field. -/
def u24At (data : List Byte) (i : Nat) : Nat := u16At data i * 256 + u8At data (i + 2)

/-- `n` bytes from `i` on. -/
def bytesAt (data : List Byte) (i n : Nat) : List Byte := (List.range n).map fun k => byteAt data (i + k)

/-- A value as one byte. -/
def byte1 (v : Nat) : Byte := BitVec.ofNat 8 v

/-- A value as two bytes. -/
def bytes2 (v : Nat) : List Byte := [byte1 (v / 256), byte1 (v % 256)]

/-- A signature as two bytes. -/
def sigBytes (g : Signature) : List Byte := bytes2 g.toNat

/-- The signature in a 2-byte field. -/
def sigAt (data : List Byte) (i : Nat) : Signature := BitVec.ofNat 16 (u16At data i)

/-- A flag as a bit. -/
def bit (b : Bool) : Nat := if b then 1 else 0

/-- Bit `k` of byte `i`. -/
def flagAt (data : List Byte) (i k : Nat) : Bool := (byteAt data i).getLsbD k

/-- A 4-bit number held in bits 7–4 of byte `i`. -/
def high4At (data : List Byte) (i : Nat) : Fin 16 := Fin.ofNat 16 (u8At data i / 16)

/-! ## Field codes (R92, R106) -/

/-- Class in the arbitration byte and in a PAYLOAD's class copy. -/
def classCode : ServiceClass → Nat
  | .premium => 1
  | .standard => 2
  | .spare => 3

def classOfCode : Nat → Option ServiceClass
  | 1 => some .premium
  | 2 => some .standard
  | 3 => some .spare
  | _ => none

def roleCode : AnnouncedRole → Nat
  | .absent => 0
  | .standby => 1
  | .taking => 2
  | .owner => 3

def roleOfCode : Nat → AnnouncedRole
  | 0 => .absent
  | 1 => .standby
  | 2 => .taking
  | _ => .owner

def phaseCode : Phase → Nat
  | .none => 0
  | .catchUp => 1
  | .drain => 2
  | .live => 3

def phaseOfCode : Nat → Phase
  | 0 => .none
  | 1 => .catchUp
  | 2 => .drain
  | _ => .live

def acqCode : AcqState → Nat
  | .idle => 0
  | .gain => 1
  | .symbol => 2
  | .frame => 3
  | .track => 4
  | .hold => 5

def acqOfCode : Nat → Option AcqState
  | 0 => some .idle
  | 1 => some .gain
  | 2 => some .symbol
  | 3 => some .frame
  | 4 => some .track
  | 5 => some .hold
  | _ => none

def reasonCode : YieldReason → Nat
  | .challenged => 0
  | .lockLost => 1
  | .belowFloor => 2
  | .duplicate => 3

def reasonOfCode : Nat → YieldReason
  | 0 => .challenged
  | 1 => .lockLost
  | 2 => .belowFloor
  | _ => .duplicate

def causesCode (c : CauseSet) : Nat :=
  bit c.frameLost * 32 + bit c.signallingChanged * 16 + bit c.errorBurst * 8 + bit c.erasureBurst * 4
    + bit c.windowJump * 2 + bit c.gainClipped

/-- The recovery cause set in byte `i`. -/
def causesAt (data : List Byte) (i : Nat) : CauseSet :=
  { frameLost := flagAt data i 5, signallingChanged := flagAt data i 4, errorBurst := flagAt data i 3,
    erasureBurst := flagAt data i 2, windowJump := flagAt data i 1, gainClipped := flagAt data i 0 }

/-! ## Building frames (R92, R98, R106) -/

/-- The arbitration byte: class in bits 7–6, address in bits 5–2, 0 in bits 1–0. -/
def arbitrationByte (cls : Nat) (a : Address) : Byte := byte1 (cls * 64 + a.val * 4)

/-- A STATUS frame's bytes before its CRC. -/
def statusBody (f : StatusFrame) : List Byte :=
  [arbitrationByte 0 f.sender, 0x01#8,
   byte1 (f.group.val * 16 + roleCode f.role * 4 + phaseCode f.phase),
   byte1 (acqCode f.acq * 32 + bit f.clash * 16 + bit f.addressClash * 8 + bit f.configClamped * 4)]
  ++ bytes2 f.merit ++ bytes2 f.demand ++ bytes2 f.floor
  ++ [byte1 (causesCode f.causes), byte1 f.fallsHold, byte1 f.fallsFrame, byte1 f.fallsSymbol,
      byte1 f.ringDepth, byte1 f.leadDepth, byte1 f.dropsPremium, byte1 f.dropsStandard, byte1 f.dropsSpare,
      byte1 f.receiveErrors]

/-- An optional signature field: 0 when absent. -/
def optSigBytes : Option Signature → List Byte
  | none => sigBytes 0
  | some g => sigBytes g

/-- A TAKE frame's bytes before its CRC. -/
def takeBody (f : TakeFrame) : List Byte :=
  [arbitrationByte 0 f.sender, 0x02#8, byte1 (f.group.val * 16 + bit f.anchor.isSome * 8)]
  ++ bytes2 f.merit ++ optSigBytes f.anchor

/-- A YIELD frame's bytes before its CRC. -/
def yieldBody (f : YieldFrame) : List Byte :=
  [arbitrationByte 0 f.sender, 0x03#8,
   byte1 (f.group.val * 16 + bit f.lastSignature.isSome * 8 + bit f.successor.isSome * 4 + reasonCode f.reason),
   byte1 ((f.successor.getD 0).val * 16)]
  ++ optSigBytes f.lastSignature

/-- A PAYLOAD frame's bytes before its CRC. -/
def payloadBody (h : PayloadHeader) (packet : Packet) : List Byte :=
  [arbitrationByte (classCode h.cls) h.sender, 0x04#8,
   byte1 (h.group.val * 16 + bit h.errored * 8 + classCode h.cls * 2)]
  ++ bytes2 h.outId ++ sigBytes h.signature ++ packet.toList

/-- A frame's bytes before its CRC. -/
def frameBody : Frame → List Byte
  | .status f => statusBody f
  | .take f => takeBody f
  | .yield f => yieldBody f
  | .payload h packet => payloadBody h packet

/-- A frame's bytes as the station sends them: the body and its CRC-16, most significant byte first (R98). -/
def frameBytes (f : Frame) : List Byte := frameBody f ++ sigBytes (crc16 (frameBody f))

/-- The packet as a PAYLOAD carries it (R98): the identifier replaced by the output identifier, in the low five bits of the
second byte and the whole of the third, and the error indicator set when the errored flag is set. -/
def sentPacket (p : Packet) (outId : Nat) (errored : Bool) : Packet :=
  (p.set 1 ((p[1] &&& 0xE0#8) ||| byte1 (outId / 256 % 32) ||| (if errored then 0x80#8 else 0x00#8))).set 2
    (byte1 (outId % 256))

/-- The bits of a byte as they stand on a line, most significant bit first. -/
def byteBits (b : Byte) : List Bool := [7, 6, 5, 4, 3, 2, 1, 0].map fun i => b.getLsbD i

/-- The level of the line at each bit-time of a frame this station drives alone: a dominant start bit, then each byte most
significant bit first with its separator, dominant when a byte follows and recessive at the end bit (R90). `true` is
recessive. -/
def lineBits : List Byte → List Bool
  | bytes => false :: go bytes
where
  go : List Byte → List Bool
    | [] => []
    | b :: rest =>
      byteBits b ++ (rest.isEmpty :: go rest)

/-! ## Receive checks (R107) -/

/-- Class code of the arbitration byte. -/
def arbitrationClass (bytes : List Byte) : Nat := u8At bytes 0 / 64

/-- Sender address of the arbitration byte. -/
def arbitrationAddress (bytes : List Byte) : Address := Fin.ofNat 16 (u8At bytes 0 / 4)

/-- The CRC check: the CRC-16 over all bytes but the last two equals the last two. -/
def crcGood (bytes : List Byte) : Bool :=
  crc16 (bytes.take (bytes.length - 2)) = sigAt bytes (bytes.length - 2)

/-- A STATUS frame's fields and its header check. -/
def parseStatus (b : List Byte) : Option StatusFrame :=
  match acqOfCode (u8At b 3 / 32) with
  | none => none
  | some acq =>
    let f : StatusFrame :=
      { sender := arbitrationAddress b, group := high4At b 2, role := roleOfCode (u8At b 2 / 4 % 4),
        phase := phaseOfCode (u8At b 2 % 4), acq := acq, clash := flagAt b 3 4, addressClash := flagAt b 3 3,
        configClamped := flagAt b 3 2, merit := u16At b 4, demand := u16At b 6, floor := u16At b 8,
        causes := causesAt b 10, fallsHold := u8At b 11, fallsFrame := u8At b 12, fallsSymbol := u8At b 13,
        ringDepth := u8At b 14, leadDepth := u8At b 15, dropsPremium := u8At b 16, dropsStandard := u8At b 17,
        dropsSpare := u8At b 18, receiveErrors := u8At b 19 }
    if arbitrationClass b = 0 ∧ f.merit ≤ 1000 ∧ f.demand ≤ 4095 ∧ f.floor ≤ 4095 then some f else none

/-- A TAKE frame's fields and its header check. -/
def parseTake (b : List Byte) : Option TakeFrame :=
  let f : TakeFrame :=
    { sender := arbitrationAddress b, group := high4At b 2, merit := u16At b 3,
      anchor := if flagAt b 2 3 then some (sigAt b 5) else none }
  if arbitrationClass b = 0 ∧ f.merit ≤ 1000 then some f else none

/-- A YIELD frame's fields and its header check. -/
def parseYield (b : List Byte) : Option YieldFrame :=
  if arbitrationClass b = 0 then
    some { sender := arbitrationAddress b, group := high4At b 2,
           lastSignature := if flagAt b 2 3 then some (sigAt b 4) else none,
           successor := if flagAt b 2 2 then some (high4At b 3) else none,
           reason := reasonOfCode (u8At b 2 % 4) }
  else none

/-- A PAYLOAD frame's header fields and its header check. -/
def parsePayload (b : List Byte) : Option PayloadHeader :=
  match classOfCode (arbitrationClass b) with
  | none => none
  | some cls =>
    if u8At b 2 / 2 % 4 = classCode cls then
      some { sender := arbitrationAddress b, group := high4At b 2, errored := flagAt b 2 3, cls := cls,
             outId := u16At b 3 % 8192, signature := sigAt b 5 }
    else none

/-- The packet carried by a PAYLOAD. -/
def payloadPacket (b : List Byte) : Packet := Vector.ofFn fun i : Fin 188 => byteAt b (7 + i.val)

/-- The receive checks in the order of R107: length, type, length for the type, CRC, header. `none` is a frame that fails
one. -/
def checkFrame (b : List Byte) : Option Frame :=
  if b.length < 2 then none
  else if u8At b 1 = 1 then
    if b.length = 22 ∧ crcGood b ∧ u8At b 0 % 4 = 0 then (parseStatus b).map .status else none
  else if u8At b 1 = 2 then
    if b.length = 9 ∧ crcGood b ∧ u8At b 0 % 4 = 0 then (parseTake b).map .take else none
  else if u8At b 1 = 3 then
    if b.length = 8 ∧ crcGood b ∧ u8At b 0 % 4 = 0 then (parseYield b).map .yield else none
  else if u8At b 1 = 4 then
    if b.length = 197 ∧ crcGood b ∧ u8At b 0 % 4 = 0 then
      (parsePayload b).map fun h => .payload h (payloadPacket b)
    else none
  else none

/-- The address a frame bears in its arbitration byte. -/
def frameSender : Frame → Address
  | .status f => f.sender
  | .take f => f.sender
  | .yield f => f.sender
  | .payload h _ => h.sender

/-! ## The configuration image (R180, R181, R182) -/

/-- The header is good (R181). -/
def headerGood (data : List Byte) : Bool :=
  u16At data 0 = 0x4C31 ∧ 8 ≤ u24At data 2 ∧ (u24At data 5 = 0 ∨ (8 ≤ u24At data 5 ∧ u24At data 5 < u24At data 2))

def recordKindOfCode : Nat → Option RecordKind
  | 1 => some .station
  | 2 => some .reception
  | 3 => some .service
  | 4 => some .share
  | _ => none

/-- One record as read from its address (R182): its kind known, itself wholly within the image, its CRC-16 as stored.
`none` is a structural fault. -/
def readRecord (imageLength address : Nat) (data : List Byte) : Option Record :=
  match recordKindOfCode (u8At data 0) with
  | none => none
  | some kind =>
    let len := u16At data 1
    if address + (6 + len + 2) ≤ imageLength ∧ crc16 (bytesAt data 0 (6 + len)) = sigAt data (6 + len) then
      some { kind := kind, payload := bytesAt data 6 len }
    else none

/-- The next-record address in a record header (R180). -/
def nextRecordAddress (data : List Byte) : Nat := u24At data 3

/-- The bytes the part drives in the select period of a stage (R179); the reads are followed by as many data bytes as the read
needs. -/
def portBytes : FetchStage → List Byte
  | .idle => []
  | .resetEnable => [0x66#8]
  | .resetCommand => [0x99#8]
  | .recoveryWait => []
  | .headerRead => [0x0B#8, 0x00#8, 0x00#8, 0x00#8, 0x00#8]
  | .recordRead a => [0x0B#8, byte1 (a / 65536), byte1 (a / 256 % 256), byte1 (a % 256), 0x00#8]

/-- The select line is driven low for the stage's transaction (R179). -/
def selectLow : FetchStage → Bool
  | .idle | .recoveryWait => false
  | .resetEnable | .resetCommand | .headerRead | .recordRead _ => true

/-- How many data bytes a read clocks (R179, R181, R182): as many as it needs, or as many as show the first fault in them. A
header shows a wrong format word in its first 2 bytes and an image length below 8 in its first 5; a record header, read whole,
shows an unknown kind or a record that leaves the image in its 6 bytes (assumption log 32). -/
def dataBytes (imageLength : Nat) (stage : FetchStage) (data : List Byte) : Nat :=
  match stage with
  | .headerRead => if u16At data 0 ≠ 0x4C31 then 2 else if u24At data 2 < 8 then 5 else 8
  | .recordRead a =>
    if recordKindOfCode (u8At data 0) = none ∨ imageLength < a + (6 + u16At data 1 + 2) then 6
    else 6 + u16At data 1 + 2
  | .idle => 0
  | .resetEnable => 0
  | .resetCommand => 0
  | .recoveryWait => 0

/-- The levels of the configuration memory port's outputs in one half of a clock period: the select line, the clock, and the data
output, `none` where the spec states no level for it. -/
structure PortLevels where
  selectLow : Bool
  clockHigh : Bool
  dataOut   : Option Bool
  deriving DecidableEq, Repr

/-- One bit on the port: the data output changes with the falling edge of the clock and stands over the rising edge, at which
the data input is sampled (R179). -/
def bitOnPort (out : Option Bool) : List PortLevels :=
  [{ selectLow := true, clockHigh := false, dataOut := out }, { selectLow := true, clockHigh := true, dataOut := out }]

/-- A byte the part drives, most significant bit first (R179). -/
def byteDriven (b : Byte) : List PortLevels := (byteBits b).flatMap fun v => bitOnPort (some v)

/-- A byte the part reads. -/
def byteClocked : List PortLevels := (List.replicate 8 (bitOnPort none)).flatten

/-- The port between two transactions and during the recovery wait: select line high, clock low (R179). -/
def portAtRest : PortLevels := { selectLow := false, clockHigh := false, dataOut := none }

/-- The port's outputs over the transaction of a stage: select line low for the bytes driven and the bytes read, and then high
(R179). A stage that is no transaction leaves the port at rest. -/
def portLevels (imageLength : Nat) (stage : FetchStage) (data : List Byte) : List PortLevels :=
  (portBytes stage).flatMap byteDriven ++ (List.replicate (dataBytes imageLength stage data) byteClocked).flatten
    ++ [portAtRest]

/-- The byte the part reads from the levels it samples at eight rising edges, most significant bit first (R179). -/
def byteSampled (bits : List Bool) : Byte := BitVec.ofNat 8 (bits.foldl (fun v b => 2 * v + bit b) 0)

end Sys2Proof.Machine
end

