-- ==== Sys2Proof/Machine/Flags.lean ====
section
/-! DEFINITION. Machine/Flags.lean: the flags, marks and reported counts of the part, and the two outputs computed from
conditions: the recovery cause set (R17, R18), the counts STATUS carries (R103, R104), the clash condition (R87), FAULT
(R192) and LAMP (R188 to R191). -/

namespace Sys2Proof.Machine

/-! ## Recovery cause set -/

/-- The six recovery causes by name. -/
inductive Cause where
  | frameLost | signallingChanged | errorBurst | erasureBurst | windowJump | gainClipped
  deriving DecidableEq, Repr

/-- A set with one cause made present or absent. -/
def setCause (c : Cause) (v : Bool) (set : CauseSet) : CauseSet :=
  match c with
  | .frameLost => { set with frameLost := v }
  | .signallingChanged => { set with signallingChanged := v }
  | .errorBurst => { set with errorBurst := v }
  | .erasureBurst => { set with erasureBurst := v }
  | .windowJump => { set with windowJump := v }
  | .gainClipped => { set with gainClipped := v }

/-- The causes of `a` that are not in `b`. -/
def causesWithout (a b : CauseSet) : CauseSet :=
  { frameLost := a.frameLost && !b.frameLost, signallingChanged := a.signallingChanged && !b.signallingChanged,
    errorBurst := a.errorBurst && !b.errorBurst, erasureBurst := a.erasureBurst && !b.erasureBurst,
    windowJump := a.windowJump && !b.windowJump, gainClipped := a.gainClipped && !b.gainClipped }

/-- Recording a cause makes it present and removes its carried mark (R17). -/
def recordCause (c : Cause) (s : State) : State :=
  { s with gau := { s.gau with causes := setCause c true s.gau.causes, carried := setCause c false s.gau.carried } }

/-- A STATUS takes its content: every cause present takes a carried mark (R17). -/
def markCauses (s : State) : State := { s with gau := { s.gau with carried := s.gau.causes } }

/-- A STATUS completes: every cause that bears a mark leaves the set (R18). -/
def settleCauses (s : State) : State :=
  { s with gau := { s.gau with causes := causesWithout s.gau.causes s.gau.carried, carried := noCauses } }

/-- A STATUS ends without completion: the marks are removed and every cause stays (R18). -/
def unmarkCauses (s : State) : State := { s with gau := { s.gau with carried := noCauses } }

/-! ## Reported counts -/

/-- The count rises by 1, saturating at 255 (R103). -/
def raiseCount (c : ReportedCount) : ReportedCount := { c with count := satAdd 255 c.count 1 }

/-- The count rises by `n`, saturating at 255 (R103). -/
def raiseCountBy (n : Nat) (c : ReportedCount) : ReportedCount := { c with count := satAdd 255 c.count n }

/-- The count is copied into a STATUS and the copy is held as its carried value. -/
def carryCount (c : ReportedCount) : ReportedCount := { c with carried := some c.count }

/-- At completion the count is reduced by its carried value, which is forgotten. -/
def settleCount (c : ReportedCount) : ReportedCount := { count := c.count - c.carried.getD 0, carried := none }

/-- At an end without completion the carried value is forgotten and the count stands. -/
def forgetCount (c : ReportedCount) : ReportedCount := { c with carried := none }

/-- `n` packets of a class are dropped (R103). -/
def countDrops (cls : ServiceClass) (n : Nat) (s : State) : State :=
  match cls with
  | .premium => { s with ri := { s.ri with dropsPremium := raiseCountBy n s.ri.dropsPremium } }
  | .standard => { s with ri := { s.ri with dropsStandard := raiseCountBy n s.ri.dropsStandard } }
  | .spare => { s with ri := { s.ri with dropsSpare := raiseCountBy n s.ri.dropsSpare } }

/-- One packet of a class is dropped (R103, R174). -/
def countDrop (cls : ServiceClass) (s : State) : State := countDrops cls 1 s

/-- A STATUS takes its content: counts and address clash flag take their carried values and mark (R103, R104). -/
def carryReports (s : State) : State :=
  { s with ri := { s.ri with
      dropsPremium := carryCount s.ri.dropsPremium, dropsStandard := carryCount s.ri.dropsStandard,
      dropsSpare := carryCount s.ri.dropsSpare, receiveErrors := carryCount s.ri.receiveErrors,
      clashCarried := s.ri.clashFlag } }

/-- A STATUS completes: counts are reduced, and a flag that still bears its mark is cleared (R103, R104). -/
def settleReports (s : State) : State :=
  { s with ri := { s.ri with
      dropsPremium := settleCount s.ri.dropsPremium, dropsStandard := settleCount s.ri.dropsStandard,
      dropsSpare := settleCount s.ri.dropsSpare, receiveErrors := settleCount s.ri.receiveErrors,
      clashFlag := s.ri.clashFlag && !s.ri.clashCarried, clashCarried := false } }

/-- A STATUS ends without completion: carried values and mark are forgotten (R101). -/
def forgetReports (s : State) : State :=
  { s with ri := { s.ri with
      dropsPremium := forgetCount s.ri.dropsPremium, dropsStandard := forgetCount s.ri.dropsStandard,
      dropsSpare := forgetCount s.ri.dropsSpare, receiveErrors := forgetCount s.ri.receiveErrors,
      clashCarried := false } }

/-! ## Clash condition and FAULT -/

/-- The entry is SUSPENDED. -/
def isSuspended (e : ServiceEntry) : Bool :=
  match e.suspension with
  | .active => false
  | .suspended _ => true

/-- The clash condition stands while at least one entry is SUSPENDED (R87). -/
def clashCondition (s : State) : Bool := s.services.any isSuspended

/-- FAULT is asserted while any of its three conditions stands (R192). -/
def faultAsserted (s : State) : Bool :=
  s.loader.state = .configFault || s.ri.clashHold.isSome || clashCondition s

/-! ## LAMP -/

/-- The base pattern of the first row of R189 whose condition stands. -/
def basePattern (s : State) : LampPattern :=
  if s.loader.state = .configFault ∨ s.ri.clashHold.isSome then .doubleFlash
  else if s.ou.role = .owner ∧ s.hbu.phase = .live then .steady
  else if (s.ou.role = .owner ∧ (s.hbu.phase = .catchUp ∨ s.hbu.phase = .drain)) ∨ s.ou.role = .taking then .fastBlink
  else if (s.ou.role = .standby ∨ s.ou.role = .yielding) ∧ s.gau.acq = .track then .slowBlink
  else if s.gau.acq = .symbol ∨ s.gau.acq = .frame ∨ s.gau.acq = .hold
      ∨ (s.gau.acq = .gain ∧ s.gau.noSignalRestarts = 0) then .intermittent
  else .off

/-- The IU chooses its base pattern again (R189). One that differs from the pattern shown starts at the beginning of its
cycle (R190); a flash running when the double flash is chosen ends (R191). -/
def refreshLamp (s : State) : State :=
  if basePattern s = s.iu.pattern then s
  else
    { s with iu :=
        { pattern := basePattern s
          flash := if basePattern s = .doubleFlash then none else s.iu.flash
          cycleStarts := s.iu.cycleStarts + 1 } }

/-- A handover flash of 250 ms starts, or starts again; one that would start under the double flash is dropped (R191). -/
def startFlash (s : State) : State :=
  if s.iu.pattern = .doubleFlash then s else { s with iu := { s.iu with flash := some 250 } }

/-- Whether a base pattern lights the lamp `t` half-milliseconds after the start of its cycle (R188). -/
def patternLit (p : LampPattern) (t : Nat) : Bool :=
  match p with
  | .doubleFlash => t % 2000 < 200 ∨ (400 ≤ t % 2000 ∧ t % 2000 < 600)
  | .steady => true
  | .fastBlink => t % 250 < 125
  | .slowBlink => t % 2000 < 1000
  | .intermittent => t % 2000 < 1000 ∧ t % 250 < 125
  | .off => false

/-- Whether LAMP is driven high, `t` half-milliseconds after the base pattern's cycle started: the inverse of the base
pattern while a handover flash runs (R191). -/
def lampHigh (s : State) (t : Nat) : Bool := xor s.iu.flash.isSome (patternLit s.iu.pattern t)

/-- Whether GAIN is driven high in gain-clock period `i` of an output period, 0..1023 (R4). -/
def gainHigh (s : State) (i : Nat) : Bool := i < s.gau.appliedDuty

end Sys2Proof.Machine
end

