-- ==== Sys2Proof/Machine/Blanker.lean ====
section
/-! DEFINITION. Machine/Blanker.lean: the impulse blanker's operations (chapter 3): thresholds, runs, history, prediction and
the blanked count. -/

namespace Sys2Proof.Machine

/-! ## Threshold (R44, R45) -/

/-- A sample's magnitude. -/
def magnitude (d : Sample) : Nat := d.toInt.natAbs

/-- The sample is above threshold: its magnitude is greater than k/8 × RMS, or k/16 × RMS inside a prediction window. Both
sides are compared exactly: squared for a measured level, and raised to the fourth power for the target level, whose fourth
power is 2048^4 / 1000. -/
def aboveThreshold (k : Nat) (lowered : Bool) (rms : RmsLevel) (d : Sample) : Bool :=
  let scaled := magnitude d * (if lowered then 16 else 8)
  match rms with
  | .measured energy count => k ^ 2 * energy < scaled ^ 2 * count
  | .target => k ^ 4 * 2048 ^ 4 < scaled ^ 4 * 1000

/-! ## Prediction (R52 to R55) -/

/-- Stamp `t` lies inside the prediction window around `p`: the 129 samples from p − 64 to p + 64 (R52). -/
def insideWindow (t p : Stamp) : Bool := (t - p + 64#32).toNat ≤ 128

/-- The predicted start, when ARMED (R54). -/
def predictedStart : Prediction → Option Stamp
  | .unarmed => none
  | .armed period anchor _ => some (anchor + period)

/-- The prediction is ARMED and the stamp lies inside its window. -/
def windowOpen (p : Prediction) (t : Stamp) : Bool :=
  match predictedStart p with
  | none => false
  | some start => insideWindow t start

/-- The impulse history after an event: the stamp appended to the three latest, the oldest of four removed first (R51). -/
def pushHistory (t : Stamp) (h : List Stamp) : List Stamp := h.drop (h.length - 3) ++ [t]

/-- Two intervals differ by no more than `tol`. -/
def intervalsClose (tol a b : Nat) : Bool := a ≤ b + tol ∧ b ≤ a + tol

/-- The test of an UNARMED prediction over the history that an event has just joined (R53). -/
def testHistory : List Stamp → Prediction
  | [a, b, c, d] =>
    let latest := (d - c).toNat
    let tol := latest / 64
    if intervalsClose tol (b - a).toNat latest ∧ intervalsClose tol (c - b).toNat latest ∧ 256 ≤ latest then
      .armed (d - c) d 0
    else .unarmed
  | _ => .unarmed

/-- The prediction after an impulse event at stamp `t`, whose history now is `h` (R53, R54): tested when UNARMED; a hit when
ARMED and inside the window; otherwise left as it stands. -/
def predictionAfterEvent (t : Stamp) (h : List Stamp) : Prediction → Prediction
  | .unarmed => testHistory h
  | .armed period anchor misses =>
    if insideWindow t (anchor + period) then .armed (t - anchor) t 0 else .armed period anchor misses

/-- The prediction after a miss (R55): the count rises, the anchor becomes the predicted start, and at 3 the prediction
returns to UNARMED. -/
def predictionAfterMiss : Prediction → Prediction
  | .unarmed => .unarmed
  | .armed period anchor misses =>
    if 3 ≤ misses + 1 then .unarmed else .armed period (anchor + period) (misses + 1)

/-- The next sample is the one of stamp (predicted start + 65), at which the window has passed without a hit (R55), and its
miss has not been taken ahead of it. -/
def missAhead (ib : Blanker) : Bool :=
  match predictedStart ib.prediction with
  | none => false
  | some start => decide (ib.stamp = start + 65#32) && decide (ib.miss ≠ .taken)

/-- The sample of stamp (predicted start + 65) has been judged and its miss is still to be counted. -/
def missOverdue (ib : Blanker) : Bool := ib.miss = .owed

/-- A miss may be taken: that of the sample last judged, or that of the next (assumption log 8). -/
def missDue (ib : Blanker) : Bool := missOverdue ib || missAhead ib

/-- A miss is counted (R55), for the sample last judged when that one's is owed, else ahead of the next sample. The predicted
start it moves to may have a stamp whose (start + 65) has just passed: that one counts at its next arrival (assumption
log 33). -/
def takeMiss (ib : Blanker) : Blanker :=
  { ib with
      prediction := predictionAfterMiss ib.prediction
      miss := if missOverdue ib then .none else .taken }

/-! ## Blanking runs (R46, R47) -/

/-- A run ends in QUIET. One whose length has reached 1024 is overlong and suspends blanking (R47). The quiet count is then 0, as
the worked sequence has it after a run's own end; R47 states no quiet count after an overlong run, and there 0 is a DESIGN
CHOICE (assumption log 6). -/
def endRun (ib : Blanker) : Blanker :=
  { ib with runState := .quiet, quietCount := 0, runLength := 0,
            suspended := ib.suspended || decide (1024 ≤ ib.runLength) }

/-- The quiet count has reached the run end h (R46). -/
def runEndDue (h : Nat) (ib : Blanker) : Bool := ib.runState = .blanking ∧ h ≤ ib.quietCount

/-- The run's length has reached 1024 samples (R47). -/
def overlongDue (ib : Blanker) : Bool := ib.runState = .blanking ∧ 1024 ≤ ib.runLength

/-- The blanker's own consequences of a sample already judged that are still to be taken when the next sample comes. -/
def settleBlanker (h : Nat) (ib : Blanker) : Blanker :=
  let ib := if runEndDue h ib ∨ overlongDue ib then endRun ib else ib
  if missOverdue ib then takeMiss ib else ib

/-- The verdict of the blanker on one sample: whether it is replaced by zero, and the blanker's run state, history and
prediction after it (R46, R47, R51, R53, R54). -/
def judgeSample (k : Nat) (rms : RmsLevel) (d : Sample) (ib : Blanker) : Bool × Blanker :=
  if ib.suspended then (false, ib)
  else
    let above := aboveThreshold k (windowOpen ib.prediction ib.stamp) rms d
    match ib.runState with
    | .quiet =>
      if above then
        let history := pushHistory ib.stamp ib.history
        (true, { ib with runState := .blanking, quietCount := 0, runLength := 1, history := history,
                         prediction := predictionAfterEvent ib.stamp history ib.prediction })
      else (false, ib)
    | .blanking =>
      (true, { ib with quietCount := if above then 0 else ib.quietCount + 1, runLength := ib.runLength + 1 })

/-- The blanker takes one sample while it is active: the sample goes on zeroed or unaltered, the blanked count of the symbol
in progress rises for a zeroed one while the mode and guard are held (R48), and the stamp advances (R44). The miss of a sample
at (predicted start + 65) is owed from here on, unless it was taken ahead (R55). -/
def blankSample (k : Nat) (rms : RmsLevel) (held : Option Candidate) (d : Sample) (ib : Blanker) : Bool × Blanker :=
  let (zeroed, judged) := judgeSample k rms d ib
  (zeroed,
    { judged with
        stamp := ib.stamp + 1#32
        out := if zeroed then 0#12 else d
        miss := if missAhead ib then .owed else .none
        blankedCount :=
          match held with
          | none => ib.blankedCount
          | some c => if zeroed then satAdd (symbolLength c) ib.blankedCount 1 else ib.blankedCount })

/-- The blanker passes a sample unaltered while the acquisition state is IDLE (R44). -/
def passSample (d : Sample) (ib : Blanker) : Blanker := { ib with stamp := ib.stamp + 1#32, out := d }

/-! ## Symbol verdicts (R49, R50) -/

/-- The erasure limit N × q. -/
def erasureLimit (q : EraseFraction) (c : Candidate) : Nat :=
  match q with
  | .eighth => usefulLength c / 8
  | .sixteenth => usefulLength c / 16
  | .thirtySecond => usefulLength c / 32

/-- The verdict at a symbol boundary: none at the first boundary after a choice (R48), else erased or clean (R49). -/
def symbolVerdict (q : EraseFraction) (c : Candidate) (ib : Blanker) : Option Bool :=
  if ib.firstBoundary then none else some (decide (erasureLimit q c < ib.blankedCount))

/-- Entry into GAIN: history emptied, prediction UNARMED, suspension ended (R47, R51, R55). -/
def restartBlanker (ib : Blanker) : Blanker :=
  { ib with history := [], prediction := .unarmed, miss := .none, suspended := false }

/-- Entry into SYMBOL: the blanked count is dropped with N and G, and the erasure burst run is 0 (R48, R50). -/
def dropSymbolCounts (ib : Blanker) : Blanker :=
  { ib with blankedCount := 0, firstBoundary := false, burstRun := 0 }

/-- A candidate is chosen: the blanked count is 0 and the first boundary is awaited (R48). -/
def startSymbolCounts (ib : Blanker) : Blanker := { ib with blankedCount := 0, firstBoundary := true }

end Sys2Proof.Machine
end

