-- ==== Sys2Proof/Machine/Trial.lean ====
section
/-! DEFINITION. Machine/Trial.lean: the SYMBOL trial (R8, R9): correlation, scores, peak positions and the choice; and the
measured level of a gain block (R2). -/

namespace Sys2Proof.Machine

/-- A trial lasts 40960 ES (R8). -/
def trialLength : Nat := 40960

/-- The sample at a trial position. -/
def trialSample (x : Array Sample) (p : Nat) : Int := (x.getD p 0#12).toInt

/-- The correlation of the G samples from position `p` with the G samples from `p + N` (R8). -/
def correlation (x : Array Sample) (c : Candidate) (p : Nat) : Int :=
  ((List.range (guardLength c)).map fun i => trialSample x (p + i) * trialSample x (p + usefulLength c + i)).sum

/-- How many positions are correlated: p runs from 0 to 40960 − N − G (R8). -/
def trialPositions (c : Candidate) : Nat := trialLength - symbolLength c + 1

/-- The accumulated magnitude at one residue modulo N + G (R8). -/
def accumulated (x : Array Sample) (c : Candidate) (r : Nat) : Nat :=
  ((List.range ((trialPositions c - r + symbolLength c - 1) / symbolLength c)).map fun k =>
    (correlation x c (r + k * symbolLength c)).natAbs).sum

/-- The accumulated values over all N + G residues. -/
def accumulation (x : Array Sample) (c : Candidate) : List Nat :=
  (List.range (symbolLength c)).map (accumulated x c)

/-- The highest of a list of values with the lowest place it stands at. -/
def highestAt : List Nat → Nat × Nat
  | [] => (0, 0)
  | v :: rest =>
    let (best, place) := highestAt rest
    if best ≤ v then (v, 0) else (best, place + 1)

/-- The score in sixteenths, rounded down and saturating at 4095: the highest accumulated value divided by the mean over all
N + G positions (R8). R8 names one rounding, that of the score, and does not say whether the mean is itself rounded down before
it: DESIGN CHOICE, the mean is exact and the quotient is rounded once (assumption log 34). Where the mean is 0 the rule states no
score, and the score is a FREE VALUE within its range (assumption log 3). -/
def scoreOf (free : Nat) (c : Candidate) (acc : List Nat) : Nat :=
  if acc.sum = 0 then min 4095 (Config.nullTrialScore free c)
  else min 4095 (16 * (highestAt acc).1 * symbolLength c / acc.sum)

/-- One candidate's outcome in a trial. -/
structure TrialScore where
  candidate : Candidate
  score     : Nat
  peak      : Nat
  deriving DecidableEq, Repr

/-- The outcome of one candidate: score and peak position, the lowest residue with the highest value (R8). -/
def trialScore (free : Nat) (x : Array Sample) (c : Candidate) : TrialScore :=
  let acc := accumulation x c
  { candidate := c, score := scoreOf free c acc, peak := (highestAt acc).2 }

/-- The candidates a trial scores: all eight, or the pinned one alone (R8, R9). -/
def scoredCandidates (pinned : Option Candidate) : List Candidate :=
  match pinned with
  | none => candidates
  | some c => [c]

/-- The choice at the end of a trial: of the candidates at or above the detect threshold, the highest score, the earlier in
the fixed order among equals (R9). -/
def chooseCandidate (threshold : Nat) (scores : List TrialScore) : Option TrialScore :=
  bestOf (fun a b => decide (b.score < a.score)) (scores.filter fun t => decide (threshold ≤ t.score))

/-! ## Measured level (R2) -/

/-- The level of a block is at least −n tenths of a dB: 200 × log10 (RMS / 2048) ≥ −n, taken to the power 100 so that it is
exact. -/
def levelAtLeast (energy count n : Nat) : Bool :=
  (count * 2048 ^ 2) ^ 100 ≤ energy ^ 100 * 10 ^ n

/-- The least n from `n` on, at most `fuel` further, with the level at least −n. -/
def levelSearch (energy count : Nat) : (fuel n : Nat) → Nat
  | 0, n => n
  | fuel + 1, n => if levelAtLeast energy count n then n else levelSearch energy count fuel (n + 1)

/-- The measured level in 0.1 dB: 200 × log10 (RMS / 2048) rounded down, and −900 for anything below (R2). -/
def measuredLevel (energy count : Nat) : Int := -(levelSearch energy count 900 0 : Int)

/-- The gain error: the measured level minus the target level of −150 (R2). -/
def gainError (energy count : Nat) : Int := measuredLevel energy count - (-150)

/-- The gain step: e / 4 truncated toward zero, clamped to −32..+32 (R3). -/
def gainStep (e : Int) : Int := clampInt (-32) 32 (e.tdiv 4)

/-- The pending duty: the applied duty minus the step, clamped to 0..1023 (R3). -/
def pendingDutyFor (applied : Nat) (step : Int) : Nat := (clampInt 0 1023 ((applied : Int) - step)).toNat

end Sys2Proof.Machine
end

