-- ==== Sys2Proof/Machine/Echo.lean ====
section
/-! DEFINITION. Machine/Echo.lean: the path list's merge of a profile update (R28 to R33) and the window placement (R34 to
R37). -/

namespace Sys2Proof.Machine

/-! ## Matching (R28) -/

/-- Distance between two delays in ES. -/
def delayDistance (a b : Int) : Nat := (a - b).natAbs

/-- The entry a peak matches: within 4 ES, the nearest, the earlier delay on equal distance. -/
def matchOf (paths : List Path) (delay : Int) : Option Path :=
  bestOf
    (fun a b => decide (delayDistance a.delay delay < delayDistance b.delay delay
      ∨ (delayDistance a.delay delay = delayDistance b.delay delay ∧ a.delay < b.delay)))
    (paths.filter fun e => decide (delayDistance e.delay delay ≤ 4))

/-- Of two peaks, the one of higher power, or of the earlier delay on equal power. -/
def strongerPeak (a b : Peak) : Bool := b.power < a.power ∨ (a.power = b.power ∧ a.delay < b.delay)

/-- The peak an entry keeps: of the peaks whose match it is, the strongest. -/
def keptPeak (paths : List Path) (peaks : List Peak) (e : Path) : Option Peak :=
  bestOf strongerPeak (peaks.filter fun p => decide ((matchOf paths p.delay).map Path.delay = some e.delay))

/-- The peaks that match no entry, in the order they are inserted: descending power, ascending delay (R31). -/
def unmatchedPeaks (paths : List Path) (peaks : List Peak) : List Peak :=
  sortBy strongerPeak (peaks.filter fun p => (matchOf paths p.delay).isNone)

/-! ## Updating, neighbour merge, insertion, ageing (R29 to R33) -/

/-- A path list entry with whether it was seen in this update. -/
structure Tracked where
  path : Path
  seen : Bool
  deriving DecidableEq, Repr

/-- The updating step for one entry (R29). -/
def updateEntry (paths : List Path) (peaks : List Peak) (e : Path) : Tracked :=
  match keptPeak paths peaks e with
  | none => { path := e, seen := false }
  | some p =>
    { path := { delay := p.delay, power := (3 * e.power + p.power.val) / 4, state := .confirmed, age := 0 }
      seen := true }

/-- Two neighbours merged (R30); `a` has the earlier delay. -/
def mergePair (a b : Path) : Path :=
  { delay := if a.power < b.power then b.delay else a.delay, power := min 65535 (a.power + b.power),
    state := .confirmed, age := 0 }

/-- The neighbour merge from the entry `cur` on: pairs 4 ES or less apart are merged, earliest first, the merged entry with
its own next neighbour too (R30). -/
def mergeFrom (cur : Tracked) : List Tracked → List Tracked
  | [] => [cur]
  | next :: rest =>
    if next.path.delay - cur.path.delay ≤ 4 then
      mergeFrom { path := mergePair cur.path next.path, seen := true } rest
    else cur :: mergeFrom next rest

/-- The neighbour-merge step (R30). -/
def mergeNeighbours : List Tracked → List Tracked
  | [] => []
  | e :: rest => mergeFrom e rest

/-- A list with an entry placed in delay order. -/
def placeByDelay (e : Tracked) (l : List Tracked) : List Tracked :=
  insertBefore (fun a b => decide (a.path.delay < b.path.delay)) e l

/-- The weakest NEW or FADING entry below a power: lowest power, the earlier delay on equal power (R32). -/
def weakestBelow (power : Nat) (l : List Tracked) : Option Tracked :=
  bestOf
    (fun a b => decide (a.path.power < b.path.power
      ∨ (a.path.power = b.path.power ∧ a.path.delay < b.path.delay)))
    (l.filter fun e => decide (e.path.state ≠ .confirmed ∧ e.path.power < power))

/-- The insertion of one unmatched peak (R31, R32). -/
def insertPeak (l : List Tracked) (p : Peak) : List Tracked :=
  let fresh : Tracked := { path := { delay := p.delay, power := p.power.val, state := .new, age := 0 }, seen := true }
  if l.any fun e => decide (delayDistance e.path.delay p.delay ≤ 4) then l
  else if l.length < 8 then placeByDelay fresh l
  else
    match weakestBelow p.power.val l with
    | none => l
    | some weak => placeByDelay fresh (l.filter fun e => decide (e.path.delay ≠ weak.path.delay))

/-- The ageing of one entry (R33); `none` is an entry that leaves the list. -/
def ageEntry (t : Tracked) : Option Path :=
  if t.seen then some t.path
  else
    match t.path.state with
    | .new => none
    | .confirmed => some { t.path with state := .fading, age := 1 }
    | .fading => if 8 ≤ t.path.age + 1 then none else some { t.path with age := t.path.age + 1 }

/-- The peaks of an update that the pilot analysis reports: at or above the peak detection threshold, within
−2048..+6143 (R26). -/
def reportedPeaks (threshold : Nat) (peaks : List Peak) : List Peak :=
  peaks.filter fun p => decide (threshold ≤ p.power.val ∧ -2048 ≤ p.delay ∧ p.delay ≤ 6143)

/-- The path list after an update that is taken: matching, updating, neighbour merge, insertion, ageing, in this order
(section 2.2). -/
def mergeUpdate (peaks : List Peak) (paths : List Path) : List Path :=
  let merged := mergeNeighbours (paths.map (updateEntry paths peaks))
  let inserted := (unmatchedPeaks paths peaks).foldl insertPeak merged
  inserted.filterMap ageEntry

/-! ## Window placement (R34 to R37) -/

/-- The paths that take part in placement (R34). -/
def participating (paths : List Path) : List Path :=
  paths.filter fun e => decide (e.state = .confirmed ∨ e.state = .fading)

/-- A path's distance outside the clean range of a window position, 0 when it is clean (R34). -/
def distanceOutside (g : Nat) (w t : Int) : Nat :=
  if w < t then (t - w).toNat else if t < w - g then (w - g - t).toNat else 0

/-- The spill of a window position (R35). -/
def spill (g : Nat) (paths : List Path) (w : Int) : Nat :=
  ((participating paths).map fun e => e.power * min (distanceOutside g w e.delay) 64 / 64).sum

/-- The candidate positions: each participating path's delay, and its delay plus G (R34). -/
def windowCandidates (g : Nat) (paths : List Path) : List Int :=
  (participating paths).flatMap fun e => [e.delay, e.delay + g]

/-- The target: least spill, the smaller position on equal spill; none without a participating path (R36). -/
def windowTarget (g : Nat) (paths : List Path) : Option Int :=
  bestOf (fun a b => decide (spill g paths a < spill g paths b ∨ (spill g paths a = spill g paths b ∧ a < b)))
    (windowCandidates g paths)

/-- The pending position and its mark for a target (R37). -/
def pendingFor (g slew : Nat) (applied target : Int) : Int × PendingMark :=
  if 2 * (target - applied).natAbs ≤ g then (clampInt (applied - slew) (applied + slew) target, .step)
  else (target, .jump)

/-- The window unit places the window from the path list as it stands (R36, R37). -/
def placeWindow (g slew : Nat) (wu : Window) : Window :=
  match windowTarget g wu.paths with
  | none => wu
  | some target =>
    { wu with pendingPos := (pendingFor g slew wu.applied target).1, mark := (pendingFor g slew wu.applied target).2 }

/-- A profile update is taken or set aside; the erased-symbol count returns to 0 either way (R27). -/
def takeProfile (g slew threshold : Nat) (peaks : List Peak) (wu : Window) : Window :=
  if 2 ≤ wu.erasedCount then { wu with erasedCount := 0 }
  else
    placeWindow g slew
      { wu with erasedCount := 0, paths := mergeUpdate (reportedPeaks threshold peaks) wu.paths }

/-- The symbol index and frame counter advance at a symbol boundary (R22); a boundary for which a preset has been made
already keeps index 0 and counter 0 (R23). -/
def advanceCounters (wu : Window) : Window :=
  if wu.presetDue then { wu with presetDue := false }
  else if 63 ≤ wu.symbolIndex then
    { wu with symbolIndex := 0, frameCounter := if 65535 ≤ wu.frameCounter then 0 else wu.frameCounter + 1 }
  else { wu with symbolIndex := wu.symbolIndex + 1 }

/-- The boundary at which the index passes from 63 to 0 (R22). -/
def isFrameBoundary (wu : Window) : Bool := !wu.presetDue && decide (63 ≤ wu.symbolIndex)

/-- The next sample stands at a grid point whose symbol boundary has not been taken (R21). -/
def boundaryDue (wu : Window) : Bool :=
  match wu.grid with
  | none => false
  | some g => decide (g.position = g.peak) && !g.taken

/-- The symbol boundary at the next sample has been taken. -/
def markBoundary (wu : Window) : Window := { wu with grid := wu.grid.map fun g => { g with taken := true } }

/-- The preset at a sync-found report (R23). While the boundary at which the report arrives is still to be taken, its own
advance is still to come. -/
def presetCounters (wu : Window) : Window :=
  { wu with symbolIndex := 0, frameCounter := 0, presetDue := boundaryDue wu }

/-- Entry into SYMBOL: grid dropped, path list emptied, erased-symbol count 0, both positions 0 and the mark NONE (R41). -/
def dropGrid (wu : Window) : Window :=
  { wu with grid := none, presetDue := false, paths := [], erasedCount := 0, applied := 0, pendingPos := 0, mark := .none }

/-- A candidate is chosen: the grid is set with the peak position as its phase (R21). The first sample after the trial has
position 40960. -/
def setGrid (t : TrialScore) (wu : Window) : Window :=
  { wu with grid := some { peak := t.peak, period := symbolLength t.candidate,
                           position := trialLength % symbolLength t.candidate, taken := false } }

/-- The grid position moves on by one sample. -/
def advanceGrid (g : Grid) : Grid :=
  { g with position := if g.position + 1 < g.period then g.position + 1 else 0, taken := false }

/-- The arrival stamp (R24, R57). -/
def arrivalStamp (wu : Window) : Nat := wu.frameCounter * 64 + wu.symbolIndex

end Sys2Proof.Machine
end

