-- ==== Sys2Proof/Machine/Merit.lean ====
section
/-! DEFINITION. Machine/Merit.lean: the packet recovery unit's operations (chapter 4): packet fields, the symbol slot, the
quality tallies and the merit. -/

namespace Sys2Proof.Machine

/-! ## Packet fields (R58) -/

/-- The error indicator: the most significant bit of the second byte. -/
def errorIndicator (p : Packet) : Bool := p[1].msb

/-- The 13-bit packet identifier. -/
def packetIdentifier (p : Packet) : Nat := p[1].toNat % 32 * 256 + p[2].toNat

/-- The errored flag (R58). -/
def erroredFlag (p : Packet) (uncorrectable : Bool) : Bool := uncorrectable || errorIndicator p

/-- The signature over the bytes exactly as decoded (R59). -/
def packetSignature (p : Packet) : Signature := crc16 p.toList

/-- The packet record handed to the service table (R60). -/
structure PacketRecord where
  bytes     : Packet
  inputId   : Nat
  errored   : Bool
  signature : Signature
  stamp     : Nat
  deriving DecidableEq, Repr

/-! ## Tallies (R65, R66) -/

/-- A packet taken in TRACK is counted (R66). -/
def tallyPacket (errored : Bool) (t : Tallies) : Tallies :=
  { t with
      allPackets := satAdd 65535 t.allPackets 1
      erroredPackets := if errored then satAdd 65535 t.erroredPackets 1 else t.erroredPackets }

/-- A complete symbol is counted: an erased one without its MER, a clean one with it (R65). -/
def tallySymbol (mer : Nat) (erased : Bool) (t : Tallies) : Tallies :=
  let t := { t with allSymbols := satAdd 65535 t.allSymbols 1 }
  if erased then { t with erasedSymbols := satAdd 65535 t.erasedSymbols 1 }
  else { t with merSum := satAdd 26214000 t.merSum mer, cleanSymbols := satAdd 65535 t.cleanSymbols 1 }

/-- A slot that holds both reports is complete: the symbol is counted in TRACK and dropped otherwise, and the slot is
emptied (R64, R65). -/
def completeSlot (acq : AcqState) (pru : Pru) : Pru :=
  match pru.slot.mer, pru.slot.verdict with
  | some mer, some erased =>
    { pru with
        slot := .empty
        tallies := if acq = .track then tallySymbol mer erased pru.tallies else pru.tallies }
  | _, _ => pru

/-- A MER value reaches the slot (R64). For the symbol of the latest boundary it fills its half. For a symbol whose boundary
is still to come it first empties the slot of any half-filled symbol. -/
def slotMer (mer : Nat) (boundaryTaken : Bool) (slot : SymbolSlot) : SymbolSlot :=
  if boundaryTaken then { slot with mer := some mer, ahead := false }
  else { mer := some mer, verdict := none, ahead := true }

/-- A verdict reaches the slot at its boundary (R64): beside a MER that came ahead of the boundary it fills its half;
otherwise it first empties the slot of any half-filled symbol. -/
def slotVerdict (erased : Bool) (slot : SymbolSlot) : SymbolSlot :=
  { mer := if slot.ahead then slot.mer else none, verdict := some erased, ahead := false }

/-- A boundary that brings no verdict (R64): a MER that came ahead of it now belongs to the latest boundary. -/
def slotBoundary (slot : SymbolSlot) : SymbolSlot :=
  if slot.ahead then { slot with ahead := false } else .empty

/-! ## Merit (R68 to R72) -/

/-- The required MER r in 0.1 dB (R68). -/
def requiredMer (g : Signalling) : Nat :=
  match g.constellation, g.rate with
  | .point4, .rate1_2 => 31
  | .point4, .rate2_3 => 49
  | .point4, .rate3_4 => 59
  | .point4, .rate5_6 => 69
  | .point4, .rate7_8 => 75
  | .point16, .rate1_2 => 88
  | .point16, .rate2_3 => 111
  | .point16, .rate3_4 => 125
  | .point16, .rate5_6 => 136
  | .point16, .rate7_8 => 142
  | .point64, .rate1_2 => 140
  | .point64, .rate2_3 => 167
  | .point64, .rate3_4 => 182
  | .point64, .rate5_6 => 195
  | .point64, .rate7_8 => 203

/-- The mean MER m (R69). -/
def meanMer (t : Tallies) : Nat := if t.cleanSymbols = 0 then 0 else t.merSum / t.cleanSymbols

/-- The base, 0..800 (R69). -/
def meritBase (t : Tallies) (r : Nat) : Int := (clampInt (-100) 300 ((meanMer t : Int) - r) + 100) * 2

/-- The packet penalty pe (R70). -/
def packetPenalty (t : Tallies) : Nat :=
  if t.allPackets = 0 then 400 else min 400 (4000 * t.erroredPackets / t.allPackets)

/-- The symbol penalty ps (R70). -/
def symbolPenalty (t : Tallies) : Nat :=
  if t.allSymbols = 0 then 200 else min 200 (1000 * t.erasedSymbols / t.allSymbols)

/-- The clean bonus (R71). For a period with packets, none errored, and no symbol at all, R71's words give the bonus and the
table "Limits of the computation" gives none and a raw merit of 0. DESIGN CHOICE: R71's words are followed (assumption
log 29). -/
def cleanBonus (t : Tallies) : Nat :=
  if t.erroredPackets = 0 ∧ t.erasedSymbols = 0 ∧ 0 < t.allPackets then 200 else 0

/-- The raw merit of a period graded in TRACK (R71). -/
def rawMerit (t : Tallies) (r : Nat) : Nat :=
  min 1000 ((meritBase t r - packetPenalty t - symbolPenalty t).toNat + cleanBonus t)

/-- The packet recovery unit closes the report period (R67, R72, R73): in TRACK the smoothed merit is updated from the raw
merit, elsewhere it is 0; the tallies are cleared. (No state that a run reaches is in TRACK without the signalling handed
over at the entry.) -/
def closePeriod (acq : AcqState) (pru : Pru) : Pru :=
  if acq = .track then
    let raw := match pru.signalling with
      | none => 0
      | some g => rawMerit pru.tallies (requiredMer g)
    { pru with
        smoothed := if pru.fresh then raw else (3 * pru.smoothed + raw) / 4
        fresh := false
        tallies := .zero }
  else { pru with smoothed := 0, tallies := .zero }

/-- The error run after a packet, before a report (R61). -/
def errorRunAfter (errored : Bool) (run : Nat) : Nat := if errored then run + 1 else 0

end Sys2Proof.Machine
end

