-- ==== Sys2Proof/Machine/Services.lean ====
section
/-! DEFINITION. Machine/Services.lean: the service table's operations (chapter 5): lookup, output identifiers, use marks,
output sets, suspensions. -/

namespace Sys2Proof.Machine

/-- The entry covers the input identifier (R75). -/
def covers (id : Nat) (e : ServiceEntry) : Bool := e.first ≤ id ∧ id < e.first + e.count

/-- The output identifier an entry forms (R79). -/
def outputIdentifier (e : ServiceEntry) (i : Nat) : Nat :=
  match e.mode with
  | .keep => i
  | .offset n => (i + n) % 8191
  | .fixed v => v

/-- The identifier lies in the entry's output set: the outputs its mode produces from its whole input range (R83). -/
def inOutputSet (e : ServiceEntry) (out : Nat) : Bool :=
  (List.range e.count).any fun j => outputIdentifier e (e.first + j) = out

/-- The entry is in use while either mark is set (R82). -/
def inUse (e : ServiceEntry) : Bool := e.thisPeriod || e.lastPeriod

/-- The table with the this-period mark set in the covering entry, the first that covers the identifier (R78). -/
def markUse (id : Nat) : List ServiceEntry → List ServiceEntry
  | [] => []
  | e :: rest => if covers id e then { e with thisPeriod := true } :: rest else e :: markUse id rest

/-- The use marks move at a report expiry (R82). -/
def moveMarks (e : ServiceEntry) : ServiceEntry := { e with lastPeriod := e.thisPeriod, thisPeriod := false }

/-- One entry against another group's identifier from a lower group (R84). -/
def clashEntry (out : Nat) (e : ServiceEntry) : ServiceEntry :=
  if inOutputSet e out then
    match e.suspension with
    | .suspended _ => { e with suspension := .suspended 2000 }
    | .active => if inUse e then { e with suspension := .suspended 2000 } else e
  else e

/-- The table after a PAYLOAD of another group (R84): nothing for a higher group. -/
def clashCheck (own other : Group) (out : Nat) (table : List ServiceEntry) : List ServiceEntry :=
  if other < own then table.map (clashEntry out) else table

/-- The hold of one entry, by its place in table order, runs out (R85). -/
def endSuspension : Nat → List ServiceEntry → List ServiceEntry
  | _, [] => []
  | 0, e :: rest => { e with suspension := .active } :: rest
  | n + 1, e :: rest => e :: endSuspension n rest

end Sys2Proof.Machine
end

