-- ==== Sys2Proof/Machine/Share.lean ====
section
/-! DEFINITION. Machine/Share.lean: the share and admission unit's operations (chapter 9): demand, share, credit and
admission into the payload queues. -/

namespace Sys2Proof.Machine

/-! ## Demand and share (R162 to R166) -/

/-- The demand formed from the offered count over a period of P ms (R162). -/
def demandFor (offered p : Nat) : Nat := min 4095 (offered * 100 / p)

/-- The (demand, floor) pairs of the owners considered: this station first, then every LIVE peer announcing OWNER (R163). -/
def consideredOwners (s : State) : List (Nat × Nat) :=
  (s.sau.demand, s.cfg.floor) ::
    ((s.ou.peers.filter fun p => decide (p.liveness = .live ∧ p.role = .owner)).map fun p => (p.demand, p.floor))

/-- Effective demand D′ (R163). -/
def effectiveDemand (o : Nat × Nat) : Nat := max o.1 o.2

/-- The share of owner `o` among the owners `all` of budget `b`, by the first of the three cases that applies (R164). -/
def shareOf (b : Nat) (all : List (Nat × Nat)) (o : Nat × Nat) : Nat :=
  let sumD := (all.map effectiveDemand).sum
  let sumF := (all.map Prod.snd).sum
  if sumD ≤ b then effectiveDemand o + (b - sumD) / all.length
  else if sumF ≤ b then o.2 + (b - sumF) * (effectiveDemand o - o.2) / (sumD - sumF)
  else o.2 * b / sumF

/-- The share is recomputed: an owner's from the owners considered, 0 in any other role (R163). -/
def recomputeShare (s : State) : State :=
  let share := if s.ou.role = .owner then shareOf s.cfg.budget (consideredOwners s) (s.sau.demand, s.cfg.floor) else 0
  { s with sau := { s.sau with share := share } }

/-- The demand is formed and the offered count is cleared (R161, R162). -/
def formDemand (s : State) : State :=
  { s with sau := { s.sau with demand := demandFor s.sau.offered s.cfg.reportPeriod, offered := 0 } }

/-! ## Credit (R167 to R169) -/

/-- The top of the credit's range; the bottom is its negative (R167). -/
def creditTop (s : State) : Int := 100 * s.cfg.burst

/-- One admission tick of an owner: the credit rises by the share, clamped at the top (R168). -/
def creditTick (s : State) : State :=
  { s with sau := { s.sau with credit := min (creditTop s) (s.sau.credit + s.sau.share) } }

/-- The least credit at which a class passes its credit test; a PREMIUM packet always passes (R171, R172). -/
def passesCredit (cls : ServiceClass) (s : State) : Bool :=
  match cls with
  | .premium => true
  | .standard => decide (100 ≤ s.sau.credit)
  | .spare => decide (100 + 50 * (s.cfg.burst : Int) ≤ s.sau.credit)

/-- The credit after an admission: 100 less, held at the bottom by an overdraft (R171, R172). -/
def chargedCredit (s : State) : Int := max (-creditTop s) (s.sau.credit - 100)

/-! ## Payload queues (R96) -/

def queueCapacity : ServiceClass → Nat
  | .premium => 8
  | .standard => 16
  | .spare => 8

def queueOf (cls : ServiceClass) (ri : Riser) : List QueueEntry :=
  match cls with
  | .premium => ri.premium
  | .standard => ri.standard
  | .spare => ri.spare

def withQueue (cls : ServiceClass) (q : List QueueEntry) (ri : Riser) : Riser :=
  match cls with
  | .premium => { ri with premium := q }
  | .standard => { ri with standard := q }
  | .spare => { ri with spare := q }

/-! ## Admission (R170 to R173) -/

/-- The answer to a packet handed to the SAU (R156, R173). -/
inductive AdmissionAnswer where
  | admitted | dropped | queueFull
  deriving DecidableEq, Repr

/-- The decision on a packet while the role is OWNER: the credit test comes before the queue (R170, R173). -/
def admissionAnswer (cls : ServiceClass) (s : State) : AdmissionAnswer :=
  if passesCredit cls s then
    if (queueOf cls s.ri).length < queueCapacity cls then .admitted else .queueFull
  else .dropped

/-- The offered count rises for a final outcome (R161). -/
def countOffered (s : State) : State :=
  { s with sau := { s.sau with offered := satAdd 65535 s.sau.offered 1 } }

/-- A packet that passed joins the tail of its class queue, the credit is charged and the packet is counted (R173). -/
def admitEntry (e : QueueEntry) (s : State) : State :=
  let s := { s with sau := { s.sau with credit := chargedCredit s } }
  countOffered { s with ri := withQueue e.cls (queueOf e.cls s.ri ++ [e]) s.ri }

/-- A record handed to the SAU (R170, R173): tested and admitted or dropped while OWNER; in any other role dropped and not
counted as offered. -/
def offerRecord (e : QueueEntry) (s : State) : State :=
  if s.ou.role = .owner then
    match admissionAnswer e.cls s with
    | .admitted => admitEntry e s
    | .dropped => countOffered (countDrop e.cls s)
    | .queueFull => countOffered (countDrop e.cls s)
  else countDrop e.cls s

end Sys2Proof.Machine
end

