-- ==== Sys2Proof/Machine/HoldBack.lean ====
section
/-! DEFINITION. Machine/HoldBack.lean: the hold-back unit's operations (chapter 8): the ring, the lead list, matching, the
anchor's resolution, CATCH_UP and DRAIN. -/

namespace Sys2Proof.Machine

/-- A ring entry as the payload queues hold it (R96). -/
def queueEntry (r : RingEntry) : QueueEntry :=
  { bytes := r.bytes, outId := r.outId, cls := r.cls, errored := r.errored, signature := r.signature }

/-! ## Ring and lead list (R140, R141) -/

/-- The distance from an older arrival stamp to a newer one (R139). -/
def stampDistance (a b : Nat) : Nat := (b + 4194304 - a) % 4194304

/-- The entry is expired for a record of arrival stamp `b` (R140). -/
def expired (b : Nat) (e : RingEntry) : Bool := 1024 ≤ stampDistance e.stamp b

/-- The ring with its expired entries removed from the oldest end. -/
def ringAfterExpiry (b : Nat) (ring : List RingEntry) : List RingEntry := ring.dropWhile (expired b)

/-- The role is OWNER and the phase DRAIN: a removed ring entry is a packet the station was to forward (R140). -/
def draining (s : State) : Bool := s.ou.role = .owner ∧ s.hbu.phase = .drain

/-- Each removed entry of an owner in DRAIN is counted in the drop count of its class (R140). -/
def countRemoved (removed : List RingEntry) (s : State) : State :=
  removed.foldl (fun s e => countDrop e.cls s) s

/-- The first step of an append: expired entries leave, counted while the phase is DRAIN (R140). -/
def expireRing (b : Nat) (s : State) : State :=
  let gone := s.hbu.ring.takeWhile (expired b)
  let s' := { s with hbu := { s.hbu with ring := ringAfterExpiry b s.hbu.ring } }
  if draining s then countRemoved gone s' else s'

/-- The second step of an append: the oldest entry of a full ring leaves as an overrun, counted while the phase is DRAIN,
and the record is placed at the newest end (R140). -/
def placeInRing (r : RingEntry) (s : State) : State :=
  if 128 ≤ s.hbu.ring.length then
    let s' := { s with hbu := { s.hbu with ring := s.hbu.ring.drop 1 ++ [r] } }
    if draining s then countRemoved (s.hbu.ring.take 1) s' else s'
  else { s with hbu := { s.hbu with ring := s.hbu.ring ++ [r] } }

/-- A record is appended to the ring (R140). -/
def appendRing (r : RingEntry) (s : State) : State := placeInRing r (expireRing r.stamp s)

/-- The lead list with a signature appended, the oldest of 32 removed first as a lead overrun (R141). -/
def appendLead (g : Signature) (lead : List Signature) : List Signature :=
  if 32 ≤ lead.length then lead.drop 1 ++ [g] else lead ++ [g]

/-! ## Owner PAYLOAD frames in STANDBY and TAKING (R143 to R145) -/

/-- A ring entry matches a signature: equal, and its errored flag clear (R144). -/
def ringMatch (g : Signature) (e : RingEntry) : Bool := !e.errored && decide (e.signature = g)

/-- A clean PAYLOAD's signature is matched against the ring, or joins the lead list while the ring is empty (R144, R145). -/
def matchPayload (g : Signature) (hbu : HoldBack) : HoldBack :=
  if hbu.ring = [] then { hbu with lead := appendLead g hbu.lead, lastReleased := none }
  else
    match dropThrough (ringMatch g) hbu.ring with
    | none => hbu
    | some rest => { hbu with ring := rest, lastReleased := some g }

/-! ## Phase changes and drain offers (R155 to R157) -/

/-- The phase becomes LIVE (R152, R153, R157). -/
def goLive (s : State) : State := refreshLamp { s with hbu := { s.hbu with phase := .live } }

/-- Up to `n` entries are offered from the oldest end of the ring (R156): admitted or dropped entries leave it, and a full
class queue ends the offer with the entry in its place. -/
def offerEntries : Nat → State → State
  | 0, s => s
  | n + 1, s =>
    match s.hbu.ring with
    | [] => s
    | e :: rest =>
      match admissionAnswer e.cls s with
      | .admitted => offerEntries n (admitEntry (queueEntry e) { s with hbu := { s.hbu with ring := rest } })
      | .dropped => offerEntries n (countOffered (countDrop e.cls { s with hbu := { s.hbu with ring := rest } }))
      | .queueFull => s

/-- A drain offer: up to two entries; an offer that leaves the ring empty makes the phase LIVE (R156, R157). -/
def drainOffer (s : State) : State :=
  let s := offerEntries 2 s
  if s.hbu.ring = [] then goLive s else s

/-! ## Decoded records (R146 to R148, R152, R153, R155) -/

/-- A record in STANDBY or TAKING (R146, R147). -/
def standbyRecord (r : RingEntry) (s : State) : State :=
  if s.hbu.lead = [] then appendRing r s
  else if r.errored then s
  else
    match dropThrough (fun g => decide (g = r.signature)) s.hbu.lead with
    | some rest => { s with hbu := { s.hbu with lead := rest } }
    | none => appendRing r { s with hbu := { s.hbu with lead := [] } }

/-- A handover gap in CATCH_UP: the lead list is emptied, the phase becomes LIVE, and the record is the first packet
forwarded (R152, R153). The spec bounds nowhere how long a record the hold-back unit hands on may be on its way. DESIGN CHOICE:
the share and admission unit takes it in the same step (assumption log 28). -/
def catchUpGap (r : RingEntry) (s : State) : State :=
  offerRecord (queueEntry r) (goLive { s with hbu := { s.hbu with lead := [] } })

/-- A record in CATCH_UP (R152, R153). -/
def catchUpRecord (r : RingEntry) (s : State) : State :=
  let s := { s with hbu := { s.hbu with catchUpCount := s.hbu.catchUpCount + 1 } }
  if s.cfg.catchUpLimit ≤ s.hbu.catchUpCount then catchUpGap r s
  else if r.errored then s
  else
    match dropThrough (fun g => decide (g = r.signature)) s.hbu.lead with
    | some rest =>
      let s := { s with hbu := { s.hbu with lead := rest } }
      if rest = [] then goLive s else s
    | none => catchUpGap r s

/-- A record in DRAIN (R155): appended to the ring, then a drain offer. When expiry leaves the ring empty the phase becomes
LIVE, and the record, finding LIVE, goes to the SAU (R157, R148), which takes it in the same step (DESIGN CHOICE: assumption
log 28). -/
def drainRecord (r : RingEntry) (s : State) : State :=
  let s := expireRing r.stamp s
  if s.hbu.ring = [] then offerRecord (queueEntry r) (goLive s) else drainOffer (placeInRing r s)

/-- The hold-back unit takes a record by the role and phase it finds (R148). One it hands on in LIVE is taken by the share and
admission unit in the same step (DESIGN CHOICE: assumption log 28). -/
def takeRecord (r : RingEntry) (s : State) : State :=
  match s.ou.role with
  | .standby => standbyRecord r s
  | .taking => standbyRecord r s
  | .owner =>
    match s.hbu.phase with
    | .live => offerRecord (queueEntry r) s
    | .catchUp => catchUpRecord r s
    | .drain => drainRecord r s
    | .none => s
  | .absent => s
  | .yielding => s

/-! ## Records on their way (R80, R148, R170) -/

/-- Where the service table hands a forwardable record, by the role and phase it reads; none where the record ends there
(R80). -/
def routeOf (s : State) : Option Route :=
  match s.ou.role with
  | .standby => some .holdBack
  | .taking => some .holdBack
  | .owner =>
    match s.hbu.phase with
    | .live => some .admission
    | .catchUp => some .holdBack
    | .drain => some .holdBack
    | .none => none
  | .absent => none
  | .yielding => none

/-- The block a record was handed to takes it, by the role and phase as they then stand (R148, R170). -/
def deliver (route : Route) (r : RingEntry) (s : State) : State :=
  match route with
  | .holdBack => takeRecord r s
  | .admission => offerRecord (queueEntry r) s

/-! ## Anchor (R150, R151) -/

/-- The lead anchor: the newest signature of the lead list, none when it is empty (R150). -/
def leadAnchor (hbu : HoldBack) : Option Signature := hbu.lead.getLast?

/-- Both stores emptied and LIVE (R151). -/
def resolveToLive (hbu : HoldBack) : HoldBack :=
  { hbu with ring := [], lead := [], lastReleased := none, phase := .live }

/-- The anchor is resolved against the stores, which gives the phase (R151). -/
def resolveAnchor (anchor : Option Signature) (hbu : HoldBack) : HoldBack :=
  match anchor with
  | none => resolveToLive hbu
  | some a =>
    if hbu.lastReleased = some a then
      { hbu with lastReleased := none, phase := if hbu.ring = [] then .live else .drain }
    else
      match dropThrough (ringMatch a) hbu.ring with
      | some rest =>
        { hbu with ring := rest, lastReleased := none, phase := if rest = [] then .live else .drain }
      | none =>
        if a ∈ hbu.lead then
          { hbu with lead := keepThroughLast (fun g => decide (g = a)) hbu.lead, lastReleased := none,
                     catchUpCount := 0, phase := .catchUp }
        else resolveToLive hbu

/-- Ring and lead list at a role change into a role other than OWNER (R142): emptied in ABSENT and YIELDING, kept
otherwise; the phase becomes NONE (R159). -/
def storesForRole (role : Role) (hbu : HoldBack) : HoldBack :=
  match role with
  | .absent => { hbu with ring := [], lead := [], lastReleased := none, phase := .none }
  | .yielding => { hbu with ring := [], lead := [], lastReleased := none, phase := .none }
  | .standby => { hbu with phase := .none }
  | .taking => { hbu with phase := .none }
  | .owner => hbu

end Sys2Proof.Machine
end

