-- ==== Sys2Proof/Machine/Riser.lean ====
section
/-! DEFINITION. Machine/Riser.lean: the riser interface's operations (chapter 6): control slots, payload queues, selection,
attempts, the content a winning frame takes, and the ends of a transmission. -/

namespace Sys2Proof.Machine

/-! ## Control slots (R94) -/

/-- A STATUS request: it marks the slot pending, and is absorbed when it already is. -/
def requestStatus (s : State) : State := { s with ri := { s.ri with statusSlot := true } }

/-- A YIELD request fills the YIELD slot, replacing what it held. -/
def requestYield (successor : Option Address) (reason : YieldReason) (s : State) : State :=
  { s with ri := { s.ri with
      yieldSlot := some { group := s.cfg.group, successor := successor, reason := reason } } }

/-- A TAKE request fills the TAKE slot, replacing what it held. -/
def requestTake (merit : Nat) (anchor : Option Signature) (s : State) : State :=
  { s with ri := { s.ri with takeSlot := some { group := s.cfg.group, merit := merit, anchor := anchor } } }

/-- A pending TAKE is withdrawn, which empties its slot. One that is in the arbitration byte is given up with it
(assumption log 7); one already in transmission goes on. -/
def withdrawTake (s : State) : State :=
  { s with ri := { s.ri with
      takeSlot := none
      tx := if s.ri.tx = .arbitrating .take then .silent else s.ri.tx } }

/-- The three control slots are emptied (R110, R112). -/
def emptySlots (s : State) : State :=
  { s with ri := { s.ri with yieldSlot := none, takeSlot := none, statusSlot := false } }

/-! ## Payload queues (R96) -/

/-- A whole queue is emptied, every entry dropped and counted in its class. -/
def emptyQueue (cls : ServiceClass) (s : State) : State :=
  let n := (queueOf cls s.ri).length
  countDrops cls n { s with ri := withQueue cls [] s.ri }

/-- The three payload queues are emptied (R96, R110, R112, R135). -/
def emptyQueues (s : State) : State := emptyQueue .spare (emptyQueue .standard (emptyQueue .premium s))

/-! ## Selection and attempts (R91, R97) -/

/-- The frame selected at an attempt: YIELD, TAKE, STATUS, then an owner's PREMIUM, STANDARD and SPARE heads (R97, R99). -/
def selectFrame (s : State) : Option Selection :=
  if s.ri.yieldSlot.isSome then some .yield
  else if s.ri.takeSlot.isSome then some .take
  else if s.ri.statusSlot then some .status
  else if s.ou.role = .owner then
    if s.ri.premium ≠ [] then some (.payload .premium)
    else if s.ri.standard ≠ [] then some (.payload .standard)
    else if s.ri.spare ≠ [] then some (.payload .spare)
    else none
  else none

/-- The frame the station may start or join with now: none under SILENCE or an address clash hold (R91). -/
def allowedFrame (s : State) : Option Selection := if mayTransmit s then selectFrame s else none

/-- The RI makes an attempt: while the line is free and it is not sending, a selected frame's start bit is driven, which
makes the bus view BUSY, and the frame is in arbitration (R90, R91). Where one step makes several frames available on an idle
line, the spec does not say whether the selection is made at the first of them or after all. DESIGN CHOICE: one selection,
after the whole step (assumption log 30). -/
def attempt (s : State) : State :=
  if s.ri.busView = .idle ∧ s.ri.tx = .silent then
    match allowedFrame s with
    | none => s
    | some sel => { s with ri := { s.ri with busView := .busy, tx := .arbitrating sel } }
  else s

/-! ## Content of a winning frame (R98, R105) -/

/-- The role as STATUS announces it. YIELDING has no code: its value is FREE (assumption log 4). -/
def announcedRole (s : State) : AnnouncedRole :=
  match s.ou.role with
  | .absent => .absent
  | .standby => .standby
  | .taking => .taking
  | .owner => .owner
  | .yielding => Config.yieldingRoleCode s.freeCount

/-- The phase as STATUS carries it: none outside OWNER (R105). -/
def announcedPhase (s : State) : Phase := if s.ou.role = .owner then s.hbu.phase else .none

/-- The fields of a STATUS read from the blocks that own them, as they stand (R105). -/
def statusContent (s : State) : StatusFrame :=
  { sender := s.loader.address, group := s.cfg.group, role := announcedRole s, phase := announcedPhase s,
    acq := s.gau.acq, clash := clashCondition s, addressClash := s.ri.clashFlag, configClamped := s.loader.clamped,
    merit := s.pru.smoothed, demand := s.sau.demand, floor := s.cfg.floor, causes := s.gau.causes,
    fallsHold := s.gau.fallsHold, fallsFrame := s.gau.fallsFrame, fallsSymbol := s.gau.fallsSymbol,
    ringDepth := s.hbu.ring.length, leadDepth := s.hbu.lead.length, dropsPremium := s.ri.dropsPremium.count,
    dropsStandard := s.ri.dropsStandard.count, dropsSpare := s.ri.dropsSpare.count,
    receiveErrors := s.ri.receiveErrors.count }

/-- The PAYLOAD frame of a queue entry (R98). -/
def payloadFrame (s : State) (e : QueueEntry) : Frame :=
  .payload
    { sender := s.loader.address, group := s.cfg.group, errored := e.errored, cls := e.cls, outId := e.outId,
      signature := e.signature }
    (sentPacket e.bytes e.outId e.errored)

/-- The frame goes on the line from byte 1 on. -/
def transmit (f : Frame) (s : State) : State := { s with ri := { s.ri with tx := .transmitting f } }

/-- The station stops driving. -/
def stopDriving (s : State) : State := { s with ri := { s.ri with tx := .silent } }

/-- A STATUS wins: slot emptied, content read, marks and carried values set (R17, R98, R103, R104). -/
def winStatus (s : State) : State :=
  let f := statusContent s
  let s : State := { s with freeCount := if s.ou.role = .yielding then s.freeCount + 1 else s.freeCount }
  transmit (.status f) (carryReports (markCauses { s with ri := { s.ri with statusSlot := false } }))

/-- A frame wins arbitration and its content is taken (R98). -/
def winFrame (sel : Selection) (s : State) : State :=
  match sel with
  | .status => winStatus s
  | .take =>
    match s.ri.takeSlot with
    | none => stopDriving s
    | some t =>
      transmit (.take { sender := s.loader.address, group := t.group, merit := t.merit, anchor := t.anchor })
        { s with ri := { s.ri with takeSlot := none } }
  | .yield =>
    match s.ri.yieldSlot with
    | none => stopDriving s
    | some y =>
      transmit
        (.yield { sender := s.loader.address, group := y.group, lastSignature := s.ri.lastSent,
                  successor := y.successor, reason := y.reason })
        { s with ri := { s.ri with yieldSlot := none } }
  | .payload cls =>
    match queueOf cls s.ri with
    | [] => stopDriving s
    | e :: rest => transmit (payloadFrame s e) { s with ri := withQueue cls rest s.ri }

/-! ## Ends of a transmission (R99, R101) -/

/-- A frame in transmission ends without completion, as far as the riser interface and the GAU are concerned: a STATUS's marks
and carried values are forgotten, a PAYLOAD's packet is dropped and counted. A frame in arbitration is given up. (The role
change that ends a yield is the ownership unit's, R136.) -/
def endTransmission (s : State) : State :=
  match s.ri.tx with
  | .silent => s
  | .arbitrating _ => stopDriving s
  | .transmitting (.status _) => stopDriving (forgetReports (unmarkCauses s))
  | .transmitting (.take _) => stopDriving s
  | .transmitting (.yield _) => stopDriving s
  | .transmitting (.payload h _) => stopDriving (countDrop h.cls s)

/-- On a departure from OWNER a PAYLOAD in arbitration or in transmission is abandoned: one in transmission is dropped and
counted, one in arbitration still stands in its queue (R99). -/
def abandonPayload (s : State) : State :=
  match s.ri.tx with
  | .arbitrating (.payload _) => stopDriving s
  | .transmitting (.payload h _) => stopDriving (countDrop h.cls s)
  | .silent => s
  | .arbitrating .yield => s
  | .arbitrating .take => s
  | .arbitrating .status => s
  | .transmitting (.status _) => s
  | .transmitting (.take _) => s
  | .transmitting (.yield _) => s

end Sys2Proof.Machine
end

