-- ==== Sys2Proof/Machine/Ownership.lean ====
section
/-! DEFINITION. Machine/Ownership.lean: the ownership unit's operations (chapter 7): the peer view, role changes, entry into
OWNER, yields, and the decisions at a report expiry. -/

namespace Sys2Proof.Machine

/-! ## Peer view (R116 to R119) -/

/-- The entry of an address. -/
def peerOf (a : Address) (peers : List Peer) : Option Peer := peers.find? fun p => decide (p.address = a)

/-- An entry as a STATUS leaves it; `old` is the entry before it (R117). -/
def peerFromStatus (f : StatusFrame) (old : Option Peer) : Peer :=
  { address := f.sender, group := f.group, role := f.role, acq := f.acq, merit := f.merit, demand := f.demand,
    floor := f.floor,
    lastSignature := match old with
      | none => none
      | some p => if p.group = f.group then p.lastSignature else none
    age := 0, liveness := .live }

/-- The view after a STATUS: the sender's entry overwritten, or created in address order (R117). -/
def viewAfterStatus (f : StatusFrame) : List Peer → List Peer
  | [] => [peerFromStatus f none]
  | p :: rest =>
    if f.sender < p.address then peerFromStatus f none :: p :: rest
    else if p.address = f.sender then peerFromStatus f (some p) :: rest
    else p :: viewAfterStatus f rest

/-- One field of the sender's entry changed; a sender with no entry changes nothing (R119). -/
def updatePeer (a : Address) (f : Peer → Peer) (peers : List Peer) : List Peer :=
  peers.map fun p => if p.address = a then f p else p

/-- The role a YIELD leaves its sender in: STANDBY, or ABSENT for LOCK_LOST from a sender last shown outside TRACK (R119). -/
def roleAfterYield (reason : YieldReason) (p : Peer) : AnnouncedRole :=
  if reason = .lockLost ∧ p.acq ≠ .track then .absent else .standby

/-- The ageing of one entry at a report expiry; `none` is an entry that is removed (R118). -/
def agePeer (silenceLimit : Nat) (p : Peer) : Option Peer :=
  if silenceLimit < p.age + 1 then none
  else some { p with age := p.age + 1, liveness := if 2 ≤ p.age + 1 then .stale else .live }

/-- The peer view is aged (R118). -/
def ageView (s : State) : State :=
  { s with ou := { s.ou with peers := s.ou.peers.filterMap (agePeer s.cfg.silenceLimit) } }

/-- A rival: LIVE and of this station's group (R118). -/
def isRival (group : Group) (p : Peer) : Bool := p.liveness = .live ∧ p.group = group

def rivals (s : State) : List Peer := s.ou.peers.filter (isRival s.cfg.group)

/-- Of two peers, the one of higher merit, or of lower address among equals (R124, R125). -/
def betterPeer (a b : Peer) : Bool := b.merit < a.merit ∨ (a.merit = b.merit ∧ a.address < b.address)

/-- The rival OWNER a challenger compares with (R124). -/
def rivalOwner (s : State) : Option Peer := bestOf betterPeer ((rivals s).filter fun p => decide (p.role = .owner))

/-- A qualifying rival: STANDBY, in TRACK, at or above this station's merit floor (R125). -/
def qualifies (floor : Nat) (p : Peer) : Bool := p.role = .standby ∧ p.acq = .track ∧ floor ≤ p.merit

/-- The best qualifying rival (R125). -/
def bestQualifying (s : State) : Option Peer := bestOf betterPeer ((rivals s).filter (qualifies s.cfg.meritFloor))

/-- The last owner signature (R119). -/
def lastOwnerSignature (s : State) : Option Signature :=
  match s.ou.lastPayloadSender with
  | none => none
  | some a =>
    match peerOf a s.ou.peers with
    | none => none
    | some p => p.lastSignature

/-! ## Role changes (R99, R120, R142, R166, R167, R191) -/

/-- The role is set; the challenge count returns to 0 at every role change (R120). -/
def setRole (role : Role) (s : State) : State := { s with ou := { s.ou with role := role, challengeCount := 0 } }

/-- The handover timer stops. -/
def stopHandover (s : State) : State := { s with ou := { s.ou with handoverTimer := none } }

/-- The handover timer starts, or starts again, at the full handover timeout (R124, R127). -/
def startHandover (s : State) : State := { s with ou := { s.ou with handoverTimer := some s.cfg.handoverTimeout } }

/-- What the riser interface does at a departure from OWNER, and the queues it empties at the entry into YIELDING (R96, R99). -/
def riserLeavesOwner (role : Role) (s : State) : State :=
  let s := abandonPayload s
  if role = .yielding then emptyQueues s else s

/-- The share and the credit are 0 outside OWNER (R166, R167). -/
def clearAdmission (s : State) : State := { s with sau := { s.sau with share := 0, credit := 0 } }

/-- A role change into a role other than OWNER, with all the blocks do at it. -/
def changeRole (role : Role) (s : State) : State :=
  let wasOwner := s.ou.role = .owner
  let s := setRole role s
  let s := if wasOwner then riserLeavesOwner role s else s
  let s := clearAdmission { s with hbu := storesForRole role s.hbu }
  let s := refreshLamp (requestStatus s)
  if wasOwner then startFlash s else s

/-- The entry into OWNER with an anchor (R122): handover timer stopped, pending TAKE withdrawn, last-sent signature none,
share computed and one tick of credit given (R166, R169), anchor resolved (R151), and a drain offer made when the resolution
gives DRAIN (R155). -/
def enterOwner (anchor : Option Signature) (s : State) : State :=
  let s := setRole .owner (withdrawTake (stopHandover s))
  let s := { s with ri := { s.ri with lastSent := none } }
  let s := recomputeShare s
  let s := creditTick { s with sau := { s.sau with credit := 0 } }
  let s := { s with hbu := resolveAnchor anchor s.hbu }
  let s := if s.hbu.phase = .drain then drainOffer s else s
  startFlash (refreshLamp (requestStatus s))

/-- The station yields (R135). -/
def yieldWith (successor : Option Address) (reason : YieldReason) (s : State) : State :=
  changeRole .yielding (requestYield successor reason s)

/-- The role a station falls to: STANDBY in TRACK or HOLD, ABSENT below HOLD (R136, R137). -/
def restingRole (s : State) : Role := if belowHold s.gau.acq then .absent else .standby

/-- The yield ends (R136). -/
def endYield (s : State) : State := if s.ou.role = .yielding then changeRole (restingRole s) s else s

/-- The challenge count returns to 0. -/
def clearChallenge (s : State) : State := { s with ou := { s.ou with challengeCount := 0 } }

/-- SILENCE or an address clash: OWNER, TAKING and YIELDING fall, the handover timer stops, and the challenge count, which is
held at 0 from here on, is 0 in every role (R137). -/
def fallRole (s : State) : State :=
  match s.ou.role with
  | .owner => changeRole (restingRole s) (stopHandover s)
  | .taking => changeRole (restingRole s) (stopHandover s)
  | .yielding => changeRole (restingRole s) (stopHandover s)
  | .absent => clearChallenge s
  | .standby => clearChallenge s

/-- The take is given up: a pending TAKE is withdrawn, the handover timer stops and the role becomes `role` (R121, R127). -/
def giveUpTake (role : Role) (s : State) : State := changeRole role (stopHandover (withdrawTake s))

/-- An address clash (R110). -/
def addressClash (s : State) : State :=
  let s := emptyQueues (emptySlots (endTransmission s))
  let s := { s with ri := { s.ri with clashFlag := true, clashCarried := false, clashHold := some 2000 } }
  fallRole (refreshLamp s)

/-! ## Acquisition state changes (R121, R131, R132) -/

/-- The ownership unit's move at a change of the acquisition state to `new`. -/
def roleAtAcqChange (new : AcqState) (s : State) : State :=
  match s.ou.role with
  | .absent => if new = .track then changeRole .standby s else s
  | .standby => if belowHold new then changeRole .absent s else s
  | .taking => if new = .track then s else giveUpTake (restingRole s) s
  | .owner =>
    if belowHold new then yieldWith none .lockLost s
    else if new = .hold then
      match bestQualifying s with
      | none => s
      | some p => yieldWith (some p.address) .lockLost s
    else s
  | .yielding => s

/-! ## Report expiry (R115, R123 to R125) -/

/-- No rival is OWNER or TAKING (R115). -/
def groupEmpty (s : State) : Bool := !(rivals s).any fun p => decide (p.role = .owner ∨ p.role = .taking)

/-- This expiry's empty-group mark is recorded, the one before kept beside it (R115). -/
def recordMark (s : State) : State :=
  { s with ou := { s.ou with emptyMark := groupEmpty s, previousMark := s.ou.emptyMark } }

/-- The station may decide to own or to challenge: TRACK, merit at or above the floor, SILENCE released and no hold (R123,
R124). -/
def fitToOwn (s : State) : Bool := s.gau.acq = .track ∧ s.cfg.meritFloor ≤ s.pru.smoothed ∧ mayTransmit s = true

/-- The station challenges (R124). -/
def challenge (s : State) : State :=
  startHandover (changeRole .taking (requestTake s.pru.smoothed (leadAnchor s.hbu) s))

/-- The challenge test of a STANDBY station (R124). -/
def challengeTest (s : State) : State :=
  if fitToOwn s then
    match rivalOwner s with
    | none => clearChallenge s
    | some owner =>
      if owner.merit + s.cfg.hysteresis < s.pru.smoothed then
        if s.cfg.challengeLimit ≤ s.ou.challengeCount + 1 then challenge s
        else { s with ou := { s.ou with challengeCount := s.ou.challengeCount + 1 } }
      else clearChallenge s
  else clearChallenge s

/-- The decision of a STANDBY station: an empty group, else the challenge test (R123, R124). -/
def standbyDecision (s : State) : State :=
  if fitToOwn s ∧ s.ou.emptyMark ∧ s.ou.previousMark then enterOwner (lastOwnerSignature s) s else challengeTest s

/-- The decision of an OWNER: below the floor it yields to the best qualifying rival (R125). -/
def ownerDecision (s : State) : State :=
  if s.pru.smoothed < s.cfg.meritFloor then
    match bestQualifying s with
    | none => s
    | some p => yieldWith (some p.address) .belowFloor s
  else s

/-- The periodic decision of the role (R115). -/
def periodicDecision (s : State) : State :=
  match s.ou.role with
  | .standby => standbyDecision s
  | .owner => ownerDecision s
  | .absent => s
  | .taking => s
  | .yielding => s

end Sys2Proof.Machine
end

