-- ==== Sys2Proof/Machine/Acquisition.lean ====
section
/-! DEFINITION. Machine/Acquisition.lean: the acquisition state machine's operations (chapter 1): changes of the acquisition
state with all the blocks do at them, recovery causes, the gain measurement, the trial's end and the frame passes. -/

namespace Sys2Proof.Machine

/-! ## Changes of the acquisition state (R1) -/

/-- The packet recovery unit at a departure from TRACK (R73). -/
def leaveTrack (pru : Pru) : Pru := { pru with smoothed := 0, fresh := true }

/-- The acquisition state changes: the packet recovery unit acts on a departure from TRACK, the ownership unit moves the role
(R121, R131, R132), and the indicator unit chooses its pattern. Setting the state it already has changes nothing but the
pattern's inputs. -/
def changeAcq (new : AcqState) (s : State) : State :=
  if s.gau.acq = new then refreshLamp s
  else
    let pru := if s.gau.acq = .track then leaveTrack s.pru else s.pru
    refreshLamp (roleAtAcqChange new { s with gau := { s.gau with acq := new }, pru := pru })

/-- Entry into GAIN, a restart from GAIN included (R1, R7, R47, R51, R55). -/
def enterGain (s : State) : State :=
  changeAcq .gain
    { s with
        gau := { s.gau with measurementCount := 0, settleRun := 0, trialSamples := #[] }
        ib := restartBlanker s.ib }

/-- Entry into SYMBOL (R8, R9, R12, R20, R41, R48, R50, R61, R64). -/
def enterSymbol (s : State) : State :=
  changeAcq .symbol
    { s with
        gau := { s.gau with failedTrials := 0, held := none, current := none, trialSamples := #[] }
        ib := dropSymbolCounts s.ib
        wu := dropGrid s.wu
        pru := { s.pru with errorRun := 0, slot := .empty } }

/-- Entry into FRAME from SYMBOL with the chosen candidate (R9, R11, R20, R21, R48). -/
def enterFrameSearch (t : TrialScore) (s : State) : State :=
  changeAcq .frame
    { s with
        gau := { s.gau with
          held := some t.candidate, trialSamples := #[], subState := .search, passCount := 0, searchCount := 0,
          candidate := none }
        ib := startSymbolCounts s.ib
        wu := setGrid t s.wu }

/-- Entry into FRAME on a signalling change (R13). -/
def enterFrameConfirm (g : Signalling) (s : State) : State :=
  changeAcq .frame { s with gau := { s.gau with subState := .confirm, candidate := some g, passCount := 0 } }

/-- Entry into TRACK with its current signalling, handed to the packet recovery unit (R5, R12, R14, R20, R67). -/
def enterTrack (g : Option Signalling) (s : State) : State :=
  changeAcq .track
    { s with
        gau := { s.gau with current := g, syncMissRun := 0, clipRun := 0 }
        pru := { s.pru with tallies := .zero, signalling := g } }

/-- Entry into HOLD (R16). -/
def enterHold (s : State) : State := changeAcq .hold { s with gau := { s.gau with holdCount := 0 } }

/-- A recovery cause is reported: recorded in every state, and in TRACK the station enters HOLD (R15, R5). -/
def reportCause (c : Cause) (s : State) : State :=
  let s := recordCause c s
  if s.gau.acq = .track then enterHold s else s

/-! ## Gain measurement (R2, R3, R5, R7) -/

/-- The block in progress takes one sample as it left the blanker (R2). -/
def blockSample (blanked : Bool) (d : Sample) (gau : Gau) : Gau :=
  { gau with
      blockCount := gau.blockCount + 1
      blockBlanked := if blanked then gau.blockBlanked + 1 else gau.blockBlanked
      blockEnergy := if blanked then gau.blockEnergy else gau.blockEnergy + magnitude d ^ 2 }

/-- A block has ended and its measurement is to be taken. -/
def measurementDue (s : State) : Bool := s.gau.acq ≠ .idle ∧ 1024 ≤ s.gau.blockCount

/-- More than 512 of the block's samples were blanked (R2). -/
def blockVoid (gau : Gau) : Bool := 512 < gau.blockBlanked

/-- The gain error of the block that ended (R2). -/
def blockError (gau : Gau) : Int := gainError gau.blockEnergy (1024 - gau.blockBlanked)

/-- The duties after a measurement that is not void (R3). -/
def setPending (gau : Gau) : Gau :=
  { gau with
      pendingDuty := pendingDutyFor gau.appliedDuty (gainStep (blockError gau))
      transferPending := true
      rms := .measured gau.blockEnergy (1024 - gau.blockBlanked) }

/-- The next block starts (R2). -/
def startBlock (gau : Gau) : Gau := { gau with blockCount := 0, blockBlanked := 0, blockEnergy := 0 }

/-- The error pushes the duty past the end it sits at (R5). -/
def pushesPastEnd (applied : Nat) (step : Int) : Bool := (applied = 0 ∧ 0 < step) ∨ (applied = 1023 ∧ step < 0)

/-- A measurement in GAIN, with its error when it is not void (R7). -/
def gainMeasured (e : Option Int) (s : State) : State :=
  let settle := match e with
    | none => 0
    | some e => if e.natAbs ≤ 10 then s.gau.settleRun + 1 else 0
  let s := { s with gau := { s.gau with measurementCount := s.gau.measurementCount + 1, settleRun := settle } }
  if 8 ≤ s.gau.settleRun then enterSymbol { s with gau := { s.gau with noSignalRestarts := 0 } }
  else if 200 ≤ s.gau.measurementCount then
    enterGain { s with gau := { s.gau with noSignalRestarts := satAdd 255 s.gau.noSignalRestarts 1 } }
  else s

/-- A measurement in TRACK that is not void (R5). -/
def clipMeasured (step : Int) (s : State) : State :=
  if pushesPastEnd s.gau.appliedDuty step then
    if 64 ≤ s.gau.clipRun + 1 then reportCause .gainClipped { s with gau := { s.gau with clipRun := 0 } }
    else { s with gau := { s.gau with clipRun := s.gau.clipRun + 1 } }
  else { s with gau := { s.gau with clipRun := 0 } }

/-- The measurement of the block that has ended (R2, R3, R5, R7, R47). -/
def takeMeasurement (s : State) : State :=
  if blockVoid s.gau then
    let s := { s with gau := startBlock s.gau }
    if s.gau.acq = .gain then gainMeasured none s else s
  else
    let e := blockError s.gau
    let s := { s with gau := startBlock (setPending s.gau), ib := { s.ib with suspended := false } }
    if s.gau.acq = .gain then gainMeasured (some e) s
    else if s.gau.acq = .track then clipMeasured (gainStep e) s
    else s

/-- The measurement, when a block has ended. -/
def measureIfDue (s : State) : State := if measurementDue s then takeMeasurement s else s

/-! ## Trials (R8, R9, R19) -/

/-- A trial has ended and its choice is to be made. -/
def trialDue (s : State) : Bool := s.gau.acq = .symbol ∧ trialLength ≤ s.gau.trialSamples.size

/-- The candidate chosen at the end of the trial, none when the trial fails (R9). -/
def trialChoice (s : State) : Option TrialScore :=
  chooseCandidate s.cfg.detectThreshold
    ((scoredCandidates s.cfg.pinned).map (trialScore s.freeCount s.gau.trialSamples))

/-- A trial has failed: a new one begins, or at the eighth the station falls back to GAIN (R9, R19). -/
def failTrial (s : State) : State :=
  let s := { s with gau := { s.gau with failedTrials := s.gau.failedTrials + 1, trialSamples := #[] } }
  if 8 ≤ s.gau.failedTrials then
    enterGain { s with gau := { s.gau with fallsSymbol := satAdd 255 s.gau.fallsSymbol 1 } }
  else s

/-- The end of a trial (R9). -/
def takeTrialEnd (s : State) : State :=
  let choice := trialChoice s
  let s := { s with freeCount := s.freeCount + 1 }
  match choice with
  | some t => enterFrameSearch t s
  | none => failTrial s

/-- The end of the trial, when it has come. -/
def endTrialIfDue (s : State) : State := if trialDue s then takeTrialEnd s else s

/-! ## Frame passes and the hold limit (R11, R12, R16, R19) -/

/-- One frame pass is counted; the third sends the station back to SYMBOL (R11, R12, R19). -/
def countPass (s : State) : State :=
  let s := { s with gau := { s.gau with passCount := s.gau.passCount + 1 } }
  if 3 ≤ s.gau.passCount then
    enterSymbol { s with gau := { s.gau with fallsFrame := satAdd 255 s.gau.fallsFrame 1 } }
  else s

/-- The search symbol count has reached 64 (R11). -/
def passDue (s : State) : Bool := s.gau.acq = .frame ∧ s.gau.subState = .search ∧ 64 ≤ s.gau.searchCount

/-- A frame pass ends in SEARCH (R11). -/
def takePass (s : State) : State := countPass { s with gau := { s.gau with searchCount := 0 } }

/-- The hold symbol count has reached the hold limit (R16). -/
def holdLimitDue (s : State) : Bool := s.gau.acq = .hold ∧ s.cfg.holdLimit ≤ s.gau.holdCount

/-- The hold limit expires (R16, R19). -/
def takeHoldLimit (s : State) : State :=
  enterSymbol { s with gau := { s.gau with fallsHold := satAdd 255 s.gau.fallsHold 1 } }

/-- A frame pass or a hold limit still to be taken when the next symbol boundary comes is taken first. -/
def settleFrameCounts (s : State) : State :=
  if passDue s then takePass s else if holdLimitDue s then takeHoldLimit s else s

/-- The GAU's own part in a symbol boundary: the search symbol count in SEARCH (R11), the hold symbol count in HOLD (R16). -/
def gauBoundary (gau : Gau) : Gau :=
  match gau.acq with
  | .frame =>
    match gau.subState with
    | .search => { gau with searchCount := gau.searchCount + 1 }
    | .confirm => gau
  | .hold => { gau with holdCount := gau.holdCount + 1 }
  | .idle => gau
  | .gain => gau
  | .symbol => gau
  | .track => gau

/-! ## Reports of the signalling decoder (R11 to R16) -/

/-- A frame check report in CONFIRM (R12). -/
def checkInConfirm (r : FrameReport) (s : State) : State :=
  if r.syncPresent then
    match r.signalling with
    | none => countPass { s with gau := { s.gau with candidate := none } }
    | some g =>
      if s.gau.candidate = some g then enterTrack (some g) s
      else countPass { s with gau := { s.gau with candidate := some g } }
  else countPass { s with gau := { s.gau with candidate := none, subState := .search, searchCount := 0 } }

/-- Changed signalling is recorded and FRAME is entered (R13, R14, R16). -/
def signallingChanged (g : Signalling) (s : State) : State := enterFrameConfirm g (recordCause .signallingChanged s)

/-- A frame check report in TRACK (R14). -/
def checkInTrack (r : FrameReport) (s : State) : State :=
  if r.syncPresent then
    match r.signalling with
    | none => { s with gau := { s.gau with syncMissRun := 0 } }
    | some g =>
      if s.gau.current = some g then { s with gau := { s.gau with syncMissRun := 0 } } else signallingChanged g s
  else if 2 ≤ s.gau.syncMissRun + 1 then
    enterHold (recordCause .frameLost { s with gau := { s.gau with syncMissRun := 0 } })
  else { s with gau := { s.gau with syncMissRun := s.gau.syncMissRun + 1 } }

/-- A frame check report in HOLD (R16). -/
def checkInHold (r : FrameReport) (s : State) : State :=
  if r.syncPresent then
    match r.signalling with
    | none => enterTrack s.gau.current s
    | some g => if s.gau.current = some g then enterTrack s.gau.current s else signallingChanged g s
  else s

/-- A frame check report is taken by the state it finds (R10). -/
def takeFrameCheck (r : FrameReport) (s : State) : State :=
  match s.gau.acq with
  | .frame =>
    match s.gau.subState with
    | .confirm => checkInConfirm r s
    | .search => s
  | .track => checkInTrack r s
  | .hold => checkInHold r s
  | .idle => s
  | .gain => s
  | .symbol => s

/-- A frame pass still to be taken when a sync-found report comes is taken first: the 64th boundary came before the report
(R11). -/
def settlePass (s : State) : State := if passDue s then takePass s else s

/-- A sync-found report is taken in SEARCH: the counters are preset and CONFIRM is entered (R11, R23); it is ignored in every
other state and sub-state (R10). -/
def confirmSync (s : State) : State :=
  if s.gau.acq = .frame ∧ s.gau.subState = .search then
    { s with
        wu := presetCounters s.wu
        gau := { s.gau with subState := .confirm, candidate := none } }
  else s

/-- A sync-found report, after the pass of the boundary before it (R11). -/
def takeSyncFound (s : State) : State := confirmSync (settlePass s)

end Sys2Proof.Machine
end

