-- ==== Sys2Proof/Machine/Waiting.lean ====
section
/-! DEFINITION. Machine/Waiting.lean: what a packet's event has handed on and its receiver has not yet taken (R62, R80, R148,
R170), and the gate every command but RESET and RESET_END passes while RESET is held low. -/

namespace Sys2Proof.Machine

/-- The record on its way is taken by the block it was handed to (R148, R170). -/
def settleRecord (s : State) : State :=
  match s.waiting.record with
  | none => s
  | some (route, r) => deliver route r { s with waiting := { s.waiting with record := none } }

/-- The report of ERROR_BURST on its way is taken by the GAU (R15, R62). -/
def settleBurst (s : State) : State :=
  if s.waiting.burst then reportCause .errorBurst { s with waiting := { s.waiting with burst := false } } else s

/-- All that is on its way is taken, the record first: it was handed on before the report was raised (R62). -/
def takeWaiting (s : State) : State :=
  if s.waiting = nothingWaits then s else attempt (settleBurst (settleRecord s))

/-- A command's effect while RESET is high, after which what an earlier packet's event left on its way is taken (assumption
log 28). While RESET is low the command changes nothing (R193). -/
def whenRunning (f : State → State) (s : State) : Host.Outcome State Fault Refusal :=
  if s.resetLow then .next s else .next (takeWaiting (f s))

end Sys2Proof.Machine
end

