-- ==== Sys2Proof/Machine/Loader.lean ====
section
/-! DEFINITION. Machine/Loader.lean: the configuration loader's operations (chapter 10): the fetch, its checks, structural
faults, the values taken from the records, and completion. -/

namespace Sys2Proof.Machine

/-! ## Fetch and fault (R178, R179, R184) -/

/-- A fetch begins with the memory reset pair (R178, R179, R182, R186). -/
def startFetch (s : State) : State :=
  { s with loader := { s.loader with
      stage := .resetEnable, imageLength := 0, kept := [], recordCount := 0, clamped := false } }

/-- The fetch stands at a stage and has not completed. -/
def fetchAt (stage : FetchStage) (s : State) : Bool := s.loader.stage = stage ∧ s.loader.state ≠ .complete

/-- The fetch goes on to a stage. -/
def fetchTo (stage : FetchStage) (s : State) : State := { s with loader := { s.loader with stage := stage } }

/-- A structural fault (R184): the fetch ends, what it read is discarded, CONFIG_FAULT is entered and the retry timer starts
at 2000 ms. -/
def structuralFault (s : State) : State :=
  refreshLamp
    { s with loader := { s.loader with
        state := .configFault, stage := .idle, imageLength := 0, kept := [], retryTimer := some 2000 } }

/-! ## Service entries in the image (R76, R183) -/

/-- The 8-byte fields of a service entry as the image holds them. -/
structure RawEntry where
  first    : Nat
  count    : Nat
  mode     : Nat
  value    : Nat
  clsField : Nat
  deriving DecidableEq, Repr

/-- The entry at byte `i` of a payload. -/
def rawEntryAt (payload : List Byte) (i : Nat) : RawEntry :=
  { first := u16At payload i, count := u16At payload (i + 2), mode := u8At payload (i + 4),
    value := u16At payload (i + 5), clsField := u8At payload (i + 7) }

/-- The entries of one SERVICE record, in order. -/
def rawEntries (payload : List Byte) : List RawEntry :=
  (List.range (payload.length / 8)).map fun k => rawEntryAt payload (8 * k)

/-- The payloads of the kept records of one kind, in chain order. -/
def payloadsOf (kind : RecordKind) (kept : List Record) : List (List Byte) :=
  (kept.filter fun r => decide (r.kind = kind)).map Record.payload

/-- The service entries of all SERVICE records, in image order (R76, R182). -/
def imageEntries (kept : List Record) : List RawEntry := (payloadsOf .service kept).flatMap rawEntries

/-- The entry's mode and class codes are known, and a FIXED entry has count 1 and a value below 8191 (R183). -/
def entrySound (e : RawEntry) : Bool :=
  e.mode ≤ 2 && e.clsField ≤ 2 && (e.mode != 2 || (e.count == 1 && decide (e.value < 8191)))

/-- The record checks (R183). -/
def recordsSound (kept : List Record) : Bool :=
  (payloadsOf .station kept).length == 1
    && decide ((payloadsOf .reception kept).length ≤ 1)
    && decide ((payloadsOf .share kept).length ≤ 1)
    && (payloadsOf .station kept).all (fun p => p.length == 11)
    && (payloadsOf .reception kept).all (fun p => p.length == 10)
    && (payloadsOf .share kept).all (fun p => p.length == 5)
    && (payloadsOf .service kept).all (fun p => p.length != 0 && p.length % 8 == 0)
    && decide ((imageEntries kept).length ≤ 32)
    && (imageEntries kept).all entrySound

/-- The count a count field codes: 0 codes 1024, and more than 1024 is taken as 1024 (R76, R186). -/
def codedCount (field : Nat) : Nat := if field = 0 then 1024 else min 1024 field

/-- The input range an entry is given: clipped to end at 8190, and empty for a first identifier of 8191 or more (R76). -/
def loadedRange (first count : Nat) : Nat × Nat :=
  if 8191 ≤ first then (8191, 0)
  else if 8190 < first + count - 1 then (first, 8191 - first)
  else (first, count)

/-- The mode of an entry: an offset above 8190 is clamped, and the value of a KEEP entry is ignored (R76). -/
def loadedMode (e : RawEntry) : ServiceMode :=
  if e.mode = 0 then .keep else if e.mode = 1 then .offset (min 8190 e.value) else .fixed e.value

/-- The class of an entry (R183). -/
def loadedClass (code : Nat) : ServiceClass := if code = 0 then .premium else if code = 1 then .standard else .spare

/-- A service entry as loaded: ACTIVE, both use marks clear (R76). -/
def loadedEntry (e : RawEntry) : ServiceEntry :=
  { first := (loadedRange e.first (codedCount e.count)).1, count := (loadedRange e.first (codedCount e.count)).2,
    mode := loadedMode e, cls := loadedClass e.clsField, suspension := .active, thisPeriod := false,
    lastPeriod := false }

/-- The load of an entry changes it, which sets the configuration-clamped flag (R76, R186). -/
def entryClamped (e : RawEntry) : Bool :=
  decide (1024 < e.count) || decide (8191 ≤ e.first) || decide (8190 < e.first + codedCount e.count - 1)
    || (e.mode == 1 && decide (8190 < e.value))

/-! ## Parameters (R185, R186) -/

/-- A numeric parameter with the ends of its range and its field's value. -/
structure Field where
  low   : Nat
  high  : Nat
  value : Nat
  deriving DecidableEq, Repr

/-- The parameter as taken. -/
def Field.taken (f : Field) : Nat := clampNat f.low f.high f.value

/-- The parameter lies outside its range. -/
def Field.outside (f : Field) : Bool := decide (f.value < f.low) || decide (f.high < f.value)

/-- The STATION parameters in the order of their bytes: group, P, L, H, K, merit floor, handover timeout, C. -/
def stationFields (p : List Byte) : List Field :=
  [⟨0, 15, u8At p 0⟩, ⟨20, 500, u16At p 1⟩, ⟨3, 15, u8At p 3⟩, ⟨0, 200, u16At p 4⟩, ⟨1, 8, u8At p 6⟩,
   ⟨0, 1000, u16At p 7⟩, ⟨10, 200, u8At p 9⟩, ⟨16, 255, u8At p 10⟩]

/-- The RECEPTION parameters in the order of their bytes: pinned code, S, peak threshold, k, h, q code, hold limit, detect
threshold. -/
def receptionFields (p : List Byte) : List Field :=
  [⟨0, 8, u8At p 0⟩, ⟨1, 32, u8At p 1⟩, ⟨1, 65535, u16At p 2⟩, ⟨16, 64, u8At p 4⟩, ⟨8, 255, u8At p 5⟩,
   ⟨0, 2, u8At p 6⟩, ⟨8, 128, u8At p 7⟩, ⟨16, 255, u8At p 8⟩]

/-- The SHARE parameters in the order of their bytes: B, F, burst. -/
def shareFields (p : List Byte) : List Field :=
  [⟨100, 11000, u16At p 0⟩, ⟨0, 4095, u16At p 2⟩, ⟨1, 64, u8At p 4⟩]

/-- Parameter number `i` of a record as taken. -/
def takenAt (fields : List Field) (i : Nat) : Nat := ((fields.map Field.taken).getD i 0)

/-- The pinned candidate of a code 0..8. -/
def pinnedOfCode (code : Nat) : Option Candidate := if code = 0 then none else candidates[code - 1]?

/-- The erase fraction of a code 0..2. -/
def eraseOfCode (code : Nat) : EraseFraction :=
  if code = 0 then .eighth else if code = 1 then .sixteenth else .thirtySecond

/-- The STATION parameters laid over a configuration. -/
def withStation (p : List Byte) (c : Configuration) : Configuration :=
  let f := stationFields p
  { c with
      group := Fin.ofNat 16 (takenAt f 0), reportPeriod := takenAt f 1, silenceLimit := takenAt f 2,
      hysteresis := takenAt f 3, challengeLimit := takenAt f 4, meritFloor := takenAt f 5,
      handoverTimeout := takenAt f 6, catchUpLimit := takenAt f 7 }

/-- The RECEPTION parameters laid over a configuration. -/
def withReception (p : List Byte) (c : Configuration) : Configuration :=
  let f := receptionFields p
  { c with
      pinned := pinnedOfCode (takenAt f 0), slew := takenAt f 1, peakThreshold := takenAt f 2,
      impulseThreshold := takenAt f 3, runEnd := takenAt f 4, eraseFraction := eraseOfCode (takenAt f 5),
      holdLimit := takenAt f 6, detectThreshold := takenAt f 7 }

/-- The SHARE parameters laid over a configuration. -/
def withShare (p : List Byte) (c : Configuration) : Configuration :=
  let f := shareFields p
  { c with budget := takenAt f 0, floor := takenAt f 1, burst := takenAt f 2 }

/-- The defaults of R185 for a missing RECEPTION or SHARE record, under which the STATION values are laid. -/
def defaults : Configuration := Configuration.reset

/-- The configuration values taken from the kept records (R185, R186). -/
def takenConfiguration (kept : List Record) : Configuration :=
  let c := (payloadsOf .station kept).foldl (fun c p => withStation p c) defaults
  let c := (payloadsOf .reception kept).foldl (fun c p => withReception p c) c
  (payloadsOf .share kept).foldl (fun c p => withShare p c) c

/-- Some value of the image was clamped or clipped (R186). -/
def imageClamped (kept : List Record) : Bool :=
  ((payloadsOf .station kept).flatMap stationFields).any Field.outside
    || ((payloadsOf .reception kept).flatMap receptionFields).any Field.outside
    || ((payloadsOf .share kept).flatMap shareFields).any Field.outside
    || (imageEntries kept).any entryClamped

/-! ## Completion (R187) -/

/-- Configuration complete: the values settle, the table is built, the report timer and the admission tick start, and the GAU
enters GAIN (R6, R76, R114, R168, R187). -/
def completeFetch (s : State) : State :=
  let kept := s.loader.kept
  let cfg := takenConfiguration kept
  enterGain
    { s with
        loader := { s.loader with state := .complete, stage := .idle, kept := [], clamped := imageClamped kept }
        cfg := cfg
        services := (imageEntries kept).map loadedEntry
        ou := { s.ou with reportTimer := some cfg.reportPeriod }
        sau := { s.sau with ticking := true } }

/-- The chain walk has ended: the record checks, then completion or a structural fault (R183, R184, R187). -/
def endWalk (s : State) : State := if recordsSound s.loader.kept then completeFetch s else structuralFault s

/-- The walk goes on to the next-record address: 0 ends it, an address within the image is read next, any other is a
structural fault (R181, R182). -/
def walkTo (address : Nat) (s : State) : State :=
  if address = 0 then endWalk s
  else if 8 ≤ address ∧ address < s.loader.imageLength then fetchTo (.recordRead address) s
  else structuralFault s

/-- The header read completes (R181). -/
def takeHeader (data : List Byte) (s : State) : State :=
  if headerGood data then
    walkTo (u24At data 5) { s with loader := { s.loader with imageLength := u24At data 2 } }
  else structuralFault s

/-- A good record is counted and kept; the 41st is a structural fault (R182). -/
def keepRecord (r : Record) (next : Nat) (s : State) : State :=
  let s := { s with loader := { s.loader with
    recordCount := s.loader.recordCount + 1, kept := s.loader.kept ++ [r] } }
  if 41 ≤ s.loader.recordCount then structuralFault s else walkTo next s

/-- A record read at an address completes (R182). -/
def takeRecordRead (address : Nat) (data : List Byte) (s : State) : State :=
  match readRecord s.loader.imageLength address data with
  | none => structuralFault s
  | some r => keepRecord r (nextRecordAddress data) s

end Sys2Proof.Machine
end

