-- ==== Sys2Proof/Machine/StartUp.lean ====
section
/-! DEFINITION. Machine/StartUp.lean: the meanings of the reset and configuration fetch commands (R177 to R187, R193). -/

namespace Sys2Proof.Machine

/-- Every block at its reset values with RESET low; what lies outside the blocks stays: the level of the SILENCE pin, and the
model's own queue and counter (R193). -/
def heldAtReset (s : State) : State :=
  { State.reset with pending := s.pending, freeCount := s.freeCount, silence := s.silence }

/-- RESET: the RESET pin is driven low, or power is applied (R193). -/
def execReset (s : State) : Host.Outcome State Fault Refusal := .next (heldAtReset s)

/-- The part leaves reset: the straps are sampled and the fetch begins (R177, R178). -/
def leaveReset (straps : BitVec 4) (s : State) : State :=
  startFetch { s with resetLow := false, loader := { s.loader with address := Fin.ofNat 16 straps.toNat } }

/-- RESET_END: RESET returns high or power-on completes (R177, R178, R193). Outside reset it does not arise, and changes
nothing. -/
def execResetEnd (straps : BitVec 4) (s : State) : Host.Outcome State Fault Refusal :=
  if s.resetLow then .next (leaveReset straps s) else .next s

/-- RESET_ENABLE_COMMAND: the 66h transaction completes and the 99h transaction follows (R179). -/
def execResetEnableCommand (s : State) : Host.Outcome State Fault Refusal :=
  whenRunning (fun s => if fetchAt .resetEnable s then fetchTo .resetCommand s else s) s

/-- RESET_COMMAND: the 99h transaction completes and the recovery wait begins (R179). -/
def execResetCommand (s : State) : Host.Outcome State Fault Refusal :=
  whenRunning (fun s => if fetchAt .resetCommand s then fetchTo .recoveryWait s else s) s

/-- RECOVERY_WAIT_END: the 50 µs have passed and the header read begins (R179). -/
def execRecoveryWaitEnd (s : State) : Host.Outcome State Fault Refusal :=
  whenRunning (fun s => if fetchAt .recoveryWait s then fetchTo .headerRead s else s) s

/-- HEADER_READ: the header read completes (R181). -/
def execHeaderRead (data : List Byte) (s : State) : Host.Outcome State Fault Refusal :=
  whenRunning (fun s => if fetchAt .headerRead s then takeHeader data s else s) s

/-- A record read completes, when one is on the port (R182). -/
def recordReadEvent (data : List Byte) (s : State) : State :=
  match s.loader.stage with
  | .recordRead address => if fetchAt (.recordRead address) s then takeRecordRead address data s else s
  | .idle => s
  | .resetEnable => s
  | .resetCommand => s
  | .recoveryWait => s
  | .headerRead => s

/-- RECORD_READ: a record read of the chain walk completes (R182, R183, R187). -/
def execRecordRead (data : List Byte) (s : State) : Host.Outcome State Fault Refusal :=
  whenRunning (recordReadEvent data) s

/-- The retry timer runs out: it stops and a fresh fetch begins, the loader state staying at CONFIG_FAULT (R184). -/
def retryFetch (s : State) : State := startFetch { s with loader := { s.loader with retryTimer := none } }

/-- RETRY_TIMER_EXPIRY (R184). -/
def execRetryTimerExpiry (s : State) : Host.Outcome State Fault Refusal :=
  whenRunning (fun s => if s.loader.retryTimer.isSome ∧ s.loader.state = .configFault then retryFetch s else s) s

end Sys2Proof.Machine
end

