-- ==== Sys2Proof/Machine/Boundary.lean ====
section
/-! DEFINITION. Machine/Boundary.lean: what the blocks do at a symbol boundary (R11, R16, R21, R22, R38, R39, R48 to R50, R64). -/

namespace Sys2Proof.Machine

/-- The blanker at a boundary that closes a symbol: verdict handed to the packet recovery unit, an erasure report to the
window unit, the burst run and, at 8, the report of ERASURE_BURST (R49, R50, R64, R27). -/
def closeSymbol (erased : Bool) (s : State) : State :=
  let run := if erased then s.ib.burstRun + 1 else 0
  let s := { s with
    pru := completeSlot s.gau.acq { s.pru with slot := slotVerdict erased s.pru.slot }
    wu := { s.wu with erasedCount := if erased then satAdd 4 s.wu.erasedCount 1 else s.wu.erasedCount }
    ib := { s.ib with blankedCount := 0, burstRun := if 8 ≤ run then 0 else run } }
  if 8 ≤ run then reportCause .erasureBurst s else s

/-- The blanker and the packet recovery unit at a symbol boundary (R48, R49, R64): the first boundary after a choice closes no
symbol. -/
def blankerBoundary (s : State) : State :=
  match s.gau.held with
  | none => s
  | some c =>
    match symbolVerdict s.cfg.eraseFraction c s.ib with
    | none =>
      { s with
          ib := { s.ib with blankedCount := 0, firstBoundary := false }
          pru := { s.pru with slot := slotBoundary s.pru.slot } }
    | some erased => closeSymbol erased s

/-- The pending position becomes the applied one and the mark NONE (R38, R39). -/
def transferWindow (wu : Window) : Window := { wu with applied := wu.pendingPos, mark := .none }

/-- The window unit's transfer at a symbol boundary: in TRACK alone, a STEP at every boundary, a JUMP at a frame boundary, which
reports WINDOW_JUMP (R38, R39, R40). -/
def windowBoundary (frameBoundary : Bool) (s : State) : State :=
  if s.gau.acq = .track then
    match s.wu.mark with
    | .none => s
    | .step => { s with wu := transferWindow s.wu }
    | .jump => if frameBoundary then reportCause .windowJump { s with wu := transferWindow s.wu } else s
  else s

/-- A grid point is reached: the counters advance (R22), the GAU counts the boundary (R11, R16), and the window unit and the
blanker act in the order given (R39, R56). -/
def takeBoundary (windowFirst : Bool) (s : State) : State :=
  let frameBoundary := isFrameBoundary s.wu
  let s := { s with wu := markBoundary (advanceCounters s.wu), gau := gauBoundary s.gau }
  if windowFirst then blankerBoundary (windowBoundary frameBoundary s)
  else windowBoundary frameBoundary (blankerBoundary s)

/-- The symbol boundary of the next sample, when that sample stands at a grid point (R21). A frame pass or a hold limit that the
boundary before made due and that has not been taken is taken first (assumption log 8). -/
def boundaryEvent (windowFirst : Bool) (s : State) : State :=
  let s := settleFrameCounts s
  if boundaryDue s.wu then takeBoundary windowFirst s else s

/-- A report that comes after the symbol boundary it belongs to finds it taken: one still due is taken first, the window unit
before the blanker (assumption log 10). -/
def boundaryBefore (boundaryTaken : Bool) (s : State) : State :=
  if boundaryTaken && boundaryDue s.wu then attempt (boundaryEvent true s) else s

end Sys2Proof.Machine
end

