-- ==== Sys2Proof/Machine/SampleStream.lean ====
section
/-! DEFINITION. Machine/SampleStream.lean: the meanings of the commands that come with the samples and the gain clock:
SAMPLE, the blanker's run ends and misses, the gain measurement, the output period's end and the trial's end (chapters 1
and 3).

The consequences that a sample makes due (a run's end, an overlong run, a prediction miss, a gain measurement, the end of a
trial), the symbol boundary at a sample of the timing grid, and the frame pass or hold limit a boundary makes due are rows of
the table of their own. Each may be taken by its own command before the next sample; one that has not been taken by then is
taken first when the next sample comes (assumption log 8). -/

namespace Sys2Proof.Machine

/-- What is due before the next sample is taken: the blanker's run end, overlong run and miss, then the measurement, then the
trial's end, then the symbol boundary the sample stands at with the window unit first, then a frame pass or hold limit. -/
def settleSamples (s : State) : State :=
  settleFrameCounts
    (boundaryEvent true (endTrialIfDue (measureIfDue { s with ib := settleBlanker s.cfg.runEnd s.ib })))

/-- The sample's place on the timing grid passes (R21). -/
def passGrid (wu : Window) : Window := { wu with grid := wu.grid.map advanceGrid }

/-- The GAU takes a sample as it left the blanker: into the block in progress, and in SYMBOL into the trial (R2, R8). -/
def gauSample (blanked : Bool) (out : Sample) (gau : Gau) : Gau :=
  let gau := blockSample blanked out gau
  if gau.acq = .symbol then { gau with trialSamples := gau.trialSamples.push out } else gau

/-- A sample arrives (R44 to R48, R51 to R56, R2, R8, R21). -/
def takeSample (d : Sample) (s : State) : State :=
  if s.gau.acq = .idle then { s with ib := passSample d s.ib }
  else
    let judged := blankSample s.cfg.impulseThreshold s.gau.rms s.gau.held d s.ib
    { s with ib := judged.2, gau := gauSample judged.1 judged.2.out s.gau, wu := passGrid s.wu }

/-- SAMPLE: a sample arrives at the sample input (R44). -/
def execSample (d : Sample) (s : State) : Host.Outcome State Fault Refusal :=
  whenRunning (fun s => takeSample d (attempt (settleSamples s))) s

/-- RUN_END: the quiet count has reached the run end, and the blanking run ends (R46). -/
def execRunEnd (s : State) : Host.Outcome State Fault Refusal :=
  whenRunning (fun s => if runEndDue s.cfg.runEnd s.ib then { s with ib := endRun s.ib } else s) s

/-- OVERLONG_RUN: the run's length has reached 1024, the run ends and blanking is suspended (R47). -/
def execOverlongRun (s : State) : Host.Outcome State Fault Refusal :=
  whenRunning (fun s => if overlongDue s.ib then { s with ib := endRun s.ib } else s) s

/-- PREDICTION_MISS: the window has passed without a hit (R55). -/
def execPredictionMiss (s : State) : Host.Outcome State Fault Refusal :=
  whenRunning (fun s => if missDue s.ib then { s with ib := takeMiss s.ib } else s) s

/-- GAIN_MEASUREMENT: a block of 1024 samples has ended (R2, R3, R5, R7, R47). -/
def execGainMeasurement (s : State) : Host.Outcome State Fault Refusal :=
  whenRunning (fun s => attempt (measureIfDue s)) s

/-- The end of an output period: a pending duty computed since the last transfer is transferred (R4). -/
def transferDuty (gau : Gau) : Gau :=
  if gau.transferPending then { gau with appliedDuty := gau.pendingDuty, transferPending := false } else gau

/-- OUTPUT_PERIOD_END (R4). -/
def execOutputPeriodEnd (s : State) : Host.Outcome State Fault Refusal :=
  whenRunning (fun s => { s with gau := transferDuty s.gau }) s

/-- TRIAL_END: a trial of 40960 samples has ended (R9). -/
def execTrialEnd (s : State) : Host.Outcome State Fault Refusal := whenRunning endTrialIfDue s

end Sys2Proof.Machine
end

