-- ==== Sys2Proof/Machine/Reception.lean ====
section
/-! DEFINITION. Machine/Reception.lean: the meanings of the commands that come with the symbols and the packets: symbol
boundary, frame pass, hold limit, MER measurement, profile update, the signalling decoder's two reports and the decoded
packet (chapters 1 to 5). -/

namespace Sys2Proof.Machine

/-! ## Symbol boundary (R21, R22) -/

/-- SYMBOL_BOUNDARY: a grid point of the timing grid is reached (R21, R22). -/
def execSymbolBoundary (windowFirst : Bool) (s : State) : Host.Outcome State Fault Refusal :=
  whenRunning (fun s => attempt (boundaryEvent windowFirst s)) s

/-- FRAME_PASS: the search symbol count has reached 64 (R11). -/
def execFramePass (s : State) : Host.Outcome State Fault Refusal :=
  whenRunning (fun s => if passDue s then takePass s else s) s

/-- HOLD_LIMIT: the hold symbol count has reached the hold limit (R16). -/
def execHoldLimit (s : State) : Host.Outcome State Fault Refusal :=
  whenRunning (fun s => if holdLimitDue s then attempt (takeHoldLimit s) else s) s

/-! ## Measurements and reports -/

/-- A MER value as the demodulator delivers it, 0..400 (R64). -/
def deliveredMer (mer : Int) : Nat := (clampInt 0 400 mer).toNat

/-- A MER measurement reaches the symbol slot (R64, R65): it belongs to the boundary at the next sample while that is still to
be taken, and to the latest boundary otherwise. -/
def takeMer (mer : Int) (s : State) : State :=
  { s with pru :=
      completeSlot s.gau.acq { s.pru with slot := slotMer (deliveredMer mer) (!boundaryDue s.wu) s.pru.slot } }

/-- A MER measurement, while the timing grid is set (R64). -/
def merEvent (mer : Int) (s : State) : State := if s.wu.grid.isSome then takeMer mer s else s

/-- MER_MEASUREMENT: the demodulator delivers the MER of a symbol (R64). -/
def execMerMeasurement (mer : Int) (boundaryTaken : Bool) (s : State) : Host.Outcome State Fault Refusal :=
  whenRunning (fun s => merEvent mer (boundaryBefore boundaryTaken s)) s

/-- The window unit takes updates in TRACK and HOLD (R26). -/
def takesProfiles (s : State) : Bool := s.gau.acq = .track ∨ s.gau.acq = .hold

/-- A profile update is merged or set aside, and the window is placed (R26 to R37). -/
def takeUpdate (peaks : List Peak) (s : State) : State :=
  match s.gau.held with
  | none => s
  | some c => { s with wu := takeProfile (guardLength c) s.cfg.slew s.cfg.peakThreshold peaks s.wu }

/-- PROFILE_UPDATE (R26). -/
def execProfileUpdate (peaks : List Peak) (s : State) : Host.Outcome State Fault Refusal :=
  whenRunning (fun s => if takesProfiles s then takeUpdate peaks s else s) s

/-- SYNC_FOUND (R10, R11, R23). -/
def execSyncFound (boundaryTaken : Bool) (s : State) : Host.Outcome State Fault Refusal :=
  whenRunning (fun s => takeSyncFound (boundaryBefore boundaryTaken s)) s

/-- FRAME_CHECK (R10, R12, R14, R16). -/
def execFrameCheck (report : FrameReport) (s : State) : Host.Outcome State Fault Refusal :=
  whenRunning (fun s => attempt (takeFrameCheck report s)) s

/-! ## Decoded packets (R57 to R63, R77 to R81) -/

/-- The packet record of a packet taken in TRACK (R57 to R60). -/
def packetRecord (p : Packet) (uncorrectable : Bool) (wu : Window) : PacketRecord :=
  { bytes := p, inputId := packetIdentifier p, errored := erroredFlag p uncorrectable,
    signature := packetSignature p, stamp := arrivalStamp wu }

/-- The record as it leaves the service table, with its output identifier and class (R80). -/
def forwardable (r : PacketRecord) (e : ServiceEntry) : RingEntry :=
  { signature := r.signature, outId := outputIdentifier e r.inputId, cls := e.cls, errored := r.errored,
    stamp := r.stamp, bytes := r.bytes }

/-- A forwardable record leaves the service table (R80): to the block its role and phase name, at once or, handed on later, on
its way; in ABSENT and YIELDING nowhere. -/
def handOn (later : Bool) (r : RingEntry) (s : State) : State :=
  match routeOf s with
  | none => s
  | some route => if later then { s with waiting := { s.waiting with record := some (route, r) } } else deliver route r s

/-- The lookup (R77 to R81): a stuffing packet and an identifier no entry covers end here uncounted; a covering entry that is
SUSPENDED drops the record; one that is ACTIVE is marked in use and the record is handed on. -/
def lookup (later : Bool) (r : PacketRecord) (s : State) : State :=
  if r.inputId = 8191 then s
  else
    match s.services.find? (covers r.inputId) with
    | none => s
    | some e =>
      match e.suspension with
      | .suspended _ => countDrop e.cls s
      | .active => handOn later (forwardable r e) { s with services := markUse r.inputId s.services }

/-- The error run after a packet; at 64 the report of ERROR_BURST is on its way to the GAU (R61, R62). -/
def countError (errored : Bool) (s : State) : State :=
  let run := errorRunAfter errored s.pru.errorRun
  if 64 ≤ run then { s with pru := { s.pru with errorRun := 0 }, waiting := { s.waiting with burst := true } }
  else { s with pru := { s.pru with errorRun := run } }

/-- A packet taken in TRACK: tallied, handed to the service table, and then counted toward the error run (R60, R61, R62, R66). -/
def packetInTrack (p : Packet) (uncorrectable later : Bool) (s : State) : State :=
  let r := packetRecord p uncorrectable s.wu
  let s := { s with pru := { s.pru with tallies := tallyPacket r.errored s.pru.tallies } }
  countError r.errored (lookup later r s)

/-- A packet-decoded event by the acquisition state it finds (R57, R63). -/
def takePacket (p : Packet) (uncorrectable later : Bool) (s : State) : State :=
  match s.gau.acq with
  | .track => packetInTrack p uncorrectable later s
  | .hold => countError (erroredFlag p uncorrectable) s
  | .frame => s
  | .symbol => s
  | .gain => s
  | .idle => s

/-- A packet-decoded event. A record of an earlier packet that is still on its way is taken first, which keeps the order of the
multiplex (R63, R148). A report of ERROR_BURST is taken after the packet, or left on its way (R62). -/
def packetEvent (p : Packet) (report : PacketReport) (s : State) : State :=
  let s := takePacket p report.uncorrectable report.recordLater (settleRecord s)
  if report.reportLater then s else settleBurst s

/-- PACKET_DECODED (R57, R62, R80). -/
def execPacketDecoded (p : Packet) (report : PacketReport) (s : State) : Host.Outcome State Fault Refusal :=
  if s.resetLow then .next s else .next (attempt (packetEvent p report s))

end Sys2Proof.Machine
end

