-- ==== Sys2Proof/Machine/Timers.lean ====
section
/-! DEFINITION. Machine/Timers.lean: the meanings of the timer commands: report expiry, admission tick, handover timer,
suspension hold, address clash hold and handover flash (chapters 4, 5, 6, 7, 9 and 11). -/

namespace Sys2Proof.Machine

/-! ## Report expiry (R67, R82, R115, R162, R163) -/

/-- The packet recovery unit and the service table at a report expiry (R67, R72, R73, R82). -/
def closePeriods (s : State) : State :=
  { s with pru := closePeriod s.gau.acq s.pru, services := s.services.map moveMarks }

/-- The share and admission unit at a report expiry (R162, R163). -/
def shareExpiry (s : State) : State := recomputeShare (formDemand s)

/-- The ownership unit at a report expiry, in the order R115 gives: ageing, mark, decision, STATUS request. -/
def ownershipExpiry (s : State) : State := requestStatus (periodicDecision (recordMark (ageView s)))

/-- A report expiry; the operand says which of the share and admission unit and the ownership unit takes it first (R163). The
timer starts again at once with the report period it holds (R114). -/
def takeExpiry (shareFirst : Bool) (s : State) : State :=
  let s := closePeriods s
  if shareFirst then ownershipExpiry (shareExpiry s) else shareExpiry (ownershipExpiry s)

/-- REPORT_EXPIRY, while the report timer runs (R114, R115). -/
def execReportExpiry (shareFirst : Bool) (s : State) : Host.Outcome State Fault Refusal :=
  whenRunning (fun s => if s.ou.reportTimer.isSome then attempt (takeExpiry shareFirst s) else s) s

/-! ## The other timers -/

/-- ADMISSION_TICK: an owner's credit rises by the share (R168). -/
def execAdmissionTick (s : State) : Host.Outcome State Fault Refusal :=
  whenRunning (fun s => if s.sau.ticking ∧ s.ou.role = .owner then creditTick s else s) s

/-- The handover timer runs out while TAKING: a rival OWNER in view ends the take, otherwise the station becomes OWNER on the
last owner signature (R130); no change into OWNER is made under SILENCE or an address clash hold (R120). -/
def handoverDecision (s : State) : State :=
  if s.ou.role = .taking then
    if (rivalOwner s).isSome then giveUpTake .standby s
    else if mayTransmit s then enterOwner (lastOwnerSignature s) s
    else s
  else s

/-- HANDOVER_TIMER_EXPIRY, while the timer runs: it stops (R130). -/
def execHandoverTimerExpiry (s : State) : Host.Outcome State Fault Refusal :=
  whenRunning
    (fun s => if s.ou.handoverTimer.isSome then attempt (handoverDecision (stopHandover s)) else s) s

/-- SUSPENSION_HOLD_END: 2000 ms have passed since the last clash of one entry, which becomes ACTIVE (R85). -/
def execSuspensionHoldEnd (entry : Nat) (s : State) : Host.Outcome State Fault Refusal :=
  whenRunning (fun s => { s with services := endSuspension entry s.services }) s

/-- The address clash hold ends (R111): the indicator unit is told, and the riser interface selects again. -/
def endClashHold (s : State) : State := attempt (refreshLamp { s with ri := { s.ri with clashHold := none } })

/-- ADDRESS_CLASH_HOLD_END, while a hold stands (R111). -/
def execAddressClashHoldEnd (s : State) : Host.Outcome State Fault Refusal :=
  whenRunning (fun s => if s.ri.clashHold.isSome then endClashHold s else s) s

/-- HANDOVER_FLASH_END: the 250 ms of a handover flash have passed (R191). -/
def execHandoverFlashEnd (s : State) : Host.Outcome State Fault Refusal :=
  whenRunning (fun s => { s with iu := { s.iu with flash := none } }) s

end Sys2Proof.Machine
end

