-- ==== Sys2Proof/Machine/BusEvents.lean ====
section
/-! DEFINITION. Machine/BusEvents.lean: the meanings of the events of the riser line and of this station's own frames on it:
idle, start bit, arbitration, readback and the end of a frame sent (R90 to R102). -/

namespace Sys2Proof.Machine

/-- The bus view is set (R90). -/
def setView (v : BusView) (s : State) : State := { s with ri := { s.ri with busView := v } }

/-- The view becomes IDLE, and from the first time on the station compares good frames with its address (R90, R177). -/
def lineIdle (s : State) : State := { s with ri := { s.ri with busView := .idle, heardIdle := true } }

/-- BUS_IDLE: the line has been recessive for 16 bit-times; the view becomes IDLE and the riser interface makes an attempt
(R90, R91). While this station drives a frame the line is never recessive for so long (R90), and the event changes nothing. -/
def execBusIdle (s : State) : Host.Outcome State Fault Refusal :=
  whenRunning (fun s => if s.ri.tx = .silent then attempt (lineIdle s) else s) s

/-- Another station's start bit on an idle line: the view becomes BUSY, and the station joins the arbitration when it has a
frame selected (R91, R97). -/
def joinFrame (s : State) : State :=
  match allowedFrame s with
  | none => setView .busy s
  | some sel => { s with ri := { s.ri with busView := .busy, tx := .arbitrating sel } }

/-- START_BIT: a dominant bit is seen while the view is IDLE (R90, R91). -/
def execStartBit (s : State) : Host.Outcome State Fault Refusal :=
  whenRunning (fun s => if s.ri.busView = .idle ∧ s.ri.tx = .silent then joinFrame s else s) s

/-- The arbitration byte ends without loss (R98). -/
def winArbitration (s : State) : State :=
  match s.ri.tx with
  | .arbitrating sel => winFrame sel s
  | .silent => s
  | .transmitting _ => s

/-- ARBITRATION_WON (R92, R98). -/
def execArbitrationWon (s : State) : Host.Outcome State Fault Refusal := whenRunning winArbitration s

/-- A recessive bit of the arbitration byte is read dominant: the station drives nothing more, and its frame stays where it
was (R92). -/
def loseArbitration (s : State) : State :=
  match s.ri.tx with
  | .arbitrating _ => stopDriving s
  | .silent => s
  | .transmitting _ => s

/-- ARBITRATION_LOST (R92). -/
def execArbitrationLost (s : State) : Host.Outcome State Fault Refusal := whenRunning loseArbitration s

/-- A mismatch while a frame is in transmission is an address clash (R93, R110). -/
def mismatch (s : State) : State :=
  match s.ri.tx with
  | .transmitting _ => addressClash s
  | .silent => s
  | .arbitrating _ => s

/-- READBACK_MISMATCH (R93). -/
def execReadbackMismatch (s : State) : Host.Outcome State Fault Refusal := whenRunning mismatch s

/-- The block that owns a completed frame takes its frame-sent event (R100, R102, R127, R136, R155). -/
def frameSentEffect (f : Frame) (s : State) : State :=
  match f with
  | .status _ => settleReports (settleCauses s)
  | .take _ => if s.ou.role = .taking then startHandover s else s
  | .yield _ => endYield s
  | .payload h _ =>
    let s := { s with ri := { s.ri with lastSent := some h.signature } }
    if draining s then drainOffer s else s

/-- The frame in transmission reaches its end bit (R100). -/
def completeFrame (s : State) : State :=
  match s.ri.tx with
  | .transmitting f => frameSentEffect f (stopDriving s)
  | .silent => s
  | .arbitrating _ => s

/-- FRAME_SENT (R100). -/
def execFrameSent (s : State) : Host.Outcome State Fault Refusal := whenRunning completeFrame s

end Sys2Proof.Machine
end

