-- ==== Sys2Proof/Machine/FramesHeard.lean ====
section
/-! DEFINITION. Machine/FramesHeard.lean: the meanings of the frames heard on the riser bus (R84, R104, R107 to R109, R117,
R119, R126, R128, R129, R133, R134, R143). -/

namespace Sys2Proof.Machine

/-- A frame is discarded by the receive checks (R104, R107). -/
def countReceiveError (s : State) : State := { s with ri := { s.ri with receiveErrors := raiseCount s.ri.receiveErrors } }

/-- A good frame that bears this station's address is an address clash (R108), once the view has been IDLE since the end of
reset; before that frames are not compared with the address (R177; assumption log 31). -/
def ownAddressHeard (s : State) : State := if s.ri.heardIdle then addressClash s else s

/-- A frame ends on the line, after which the view is BUSY. One that fails its checks is counted; one that bears this station's
address is an address clash; a good frame is dispatched once configuration is complete, and discarded before (R107 to R109). -/
def receive (good : Bool) (sender : Address) (dispatch : State → State) (s : State) : State :=
  let s := setView .busy s
  if good then
    if sender = s.loader.address then ownAddressHeard s
    else if s.loader.state = .complete then dispatch s
    else s
  else countReceiveError s

/-- The peer view is changed. -/
def mapPeers (f : List Peer → List Peer) (s : State) : State := { s with ou := { s.ou with peers := f s.ou.peers } }

/-! ## STATUS (R117, R129, R133) -/

/-- This station loses the duplicate-owner test against an announced merit (R133). -/
def losesDuplicate (f : StatusFrame) (s : State) : Bool :=
  s.pru.smoothed < f.merit ∨ (s.pru.smoothed = f.merit ∧ f.sender < s.loader.address)

/-- What a rival's STATUS announcing OWNER brings about in the present role (R129, R133). -/
def answerOwner (f : StatusFrame) (s : State) : State :=
  match s.ou.role with
  | .taking => if s.pru.smoothed ≤ f.merit then giveUpTake .standby s else s
  | .owner => if losesDuplicate f s then yieldWith (some f.sender) .duplicate s else requestStatus s
  | .absent => s
  | .standby => s
  | .yielding => s

/-- A STATUS dispatched to the ownership unit (R117). -/
def dispatchStatus (f : StatusFrame) (s : State) : State :=
  let s := mapPeers (viewAfterStatus f) s
  if f.group = s.cfg.group ∧ f.role = .owner then answerOwner f s else s

/-- STATUS_RECEIVED (R117). -/
def execStatusReceived (f : StatusFrame) (s : State) : Host.Outcome State Fault Refusal :=
  whenRunning (receive f.wf f.sender (dispatchStatus f)) s

/-! ## TAKE (R119, R126) -/

/-- The owner's answer to a TAKE of its group (R126). -/
def answerTake (f : TakeFrame) (s : State) : State :=
  if s.pru.smoothed < f.merit then yieldWith (some f.sender) .challenged s else requestStatus s

/-- A TAKE dispatched to the ownership unit (R119, R126). -/
def dispatchTake (f : TakeFrame) (s : State) : State :=
  let s := mapPeers (updatePeer f.sender fun p => { p with role := .taking }) s
  if f.group = s.cfg.group ∧ s.ou.role = .owner then answerTake f s else s

/-- TAKE_RECEIVED (R126). -/
def execTakeReceived (f : TakeFrame) (s : State) : Host.Outcome State Fault Refusal :=
  whenRunning (receive f.wf f.sender (dispatchTake f)) s

/-! ## YIELD (R119, R128, R134) -/

/-- A taker's answer to a YIELD of its group (R128): named, or none named, it becomes OWNER; another named ends the take. -/
def takerHearsYield (f : YieldFrame) (s : State) : State :=
  match f.successor with
  | none => if mayTransmit s then enterOwner f.lastSignature s else s
  | some a =>
    if a = s.loader.address then (if mayTransmit s then enterOwner f.lastSignature s else s) else giveUpTake .standby s

/-- A standby's answer to a YIELD of its group (R134): named, in TRACK and free to transmit, it becomes OWNER. -/
def standbyHearsYield (f : YieldFrame) (s : State) : State :=
  if f.successor = some s.loader.address ∧ s.gau.acq = .track ∧ mayTransmit s = true then enterOwner f.lastSignature s
  else s

/-- What a YIELD of this station's group brings about in the present role (R128, R134). -/
def answerYield (f : YieldFrame) (s : State) : State :=
  match s.ou.role with
  | .taking => takerHearsYield f s
  | .standby => standbyHearsYield f s
  | .absent => s
  | .owner => s
  | .yielding => s

/-- A YIELD dispatched to the ownership unit (R119, R128, R134). -/
def dispatchYield (f : YieldFrame) (s : State) : State :=
  let s := mapPeers (updatePeer f.sender fun p => { p with role := roleAfterYield f.reason p }) s
  if f.group = s.cfg.group then answerYield f s else s

/-- YIELD_RECEIVED (R128, R134). -/
def execYieldReceived (f : YieldFrame) (s : State) : Host.Outcome State Fault Refusal :=
  whenRunning (receive true f.sender (dispatchYield f)) s

/-! ## PAYLOAD (R84, R119, R143) -/

/-- The hold-back unit's part in a PAYLOAD of this station's group: a clean one is matched in STANDBY and TAKING (R143). -/
def holdBackHears (h : PayloadHeader) (s : State) : State :=
  if (s.ou.role = .standby ∨ s.ou.role = .taking) ∧ h.errored = false then
    { s with hbu := matchPayload h.signature s.hbu }
  else s

/-- The ownership unit's part in a PAYLOAD of this station's group (R119). -/
def ownershipHears (h : PayloadHeader) (s : State) : State :=
  let s := mapPeers (updatePeer h.sender fun p => { p with lastSignature := some h.signature }) s
  { s with ou := { s.ou with lastPayloadSender := some h.sender } }

/-- A PAYLOAD dispatched by its group (R109). -/
def dispatchPayload (h : PayloadHeader) (s : State) : State :=
  if h.group = s.cfg.group then ownershipHears h (holdBackHears h s)
  else { s with services := clashCheck s.cfg.group h.group h.outId s.services }

/-- PAYLOAD_RECEIVED (R109, R143). -/
def execPayloadReceived (h : PayloadHeader) (s : State) : Host.Outcome State Fault Refusal :=
  whenRunning (receive h.wf h.sender (dispatchPayload h)) s

/-! ## Frames that are not dispatched (R104, R107, R108) -/

/-- A frame that fails a receive check is counted; bytes that pass every check are no such frame (R107). -/
def errorEvent (bytes : List Byte) (s : State) : State :=
  match checkFrame bytes with
  | none => countReceiveError (setView .busy s)
  | some _ => s

/-- RECEIVE_ERROR (R104, R107). -/
def execReceiveError (bytes : List Byte) (s : State) : Host.Outcome State Fault Refusal := whenRunning (errorEvent bytes) s

/-- A good frame bearing this station's address is an address clash; any other bytes are no such frame (R108). -/
def ownAddressEvent (bytes : List Byte) (s : State) : State :=
  match checkFrame bytes with
  | none => s
  | some f => if frameSender f = s.loader.address then ownAddressHeard (setView .busy s) else s

/-- OWN_ADDRESS_FRAME (R108, R110). -/
def execOwnAddressFrame (bytes : List Byte) (s : State) : Host.Outcome State Fault Refusal :=
  whenRunning (ownAddressEvent bytes) s

end Sys2Proof.Machine
end

