-- ==== Sys2Proof/Machine/PinEvents.lean ====
section
/-! DEFINITION. Machine/PinEvents.lean: the meanings of the two changes of the SILENCE pin (R112, R113, R137, R193). -/

namespace Sys2Proof.Machine

/-- The riser interface and the ownership unit at the assertion of SILENCE (R112, R137). -/
def silenceStation (s : State) : State := fallRole (emptyQueues (emptySlots (endTransmission s)))

/-- The level becomes asserted, when it is not already. -/
def assertSilence (s : State) : State := if s.silence then s else silenceStation { s with silence := true }

/-- SILENCE_ASSERT: while RESET is low only the level changes (R112, R193). -/
def execSilenceAssert (s : State) : Host.Outcome State Fault Refusal :=
  if s.resetLow then .next { s with silence := true } else whenRunning assertSilence s

/-- The level is released, when it is asserted: the riser interface resumes, at once when its bus view is IDLE and a frame is
pending (R113). -/
def releaseSilence (s : State) : State := if s.silence then attempt { s with silence := false } else s

/-- SILENCE_RELEASE: while RESET is low only the level changes (R113, R193). -/
def execSilenceRelease (s : State) : Host.Outcome State Fault Refusal :=
  if s.resetLow then .next { s with silence := false } else whenRunning releaseSilence s

end Sys2Proof.Machine
end

