-- ==== Sys2Proof/Machine/Dispatch.lean ====
section
/-! DEFINITION. Machine/Dispatch.lean: the effect of each command, one arm per constructor of `Instr`. -/

namespace Sys2Proof.Machine

def exec (i : Instr) (s : State) : Host.Outcome State Fault Refusal :=
  match i with
  | .reset => Sys2Proof.Machine.execReset s
  | .resetEnd straps => Sys2Proof.Machine.execResetEnd straps s
  | .resetEnableCommand => Sys2Proof.Machine.execResetEnableCommand s
  | .resetCommand => Sys2Proof.Machine.execResetCommand s
  | .recoveryWaitEnd => Sys2Proof.Machine.execRecoveryWaitEnd s
  | .headerRead data => Sys2Proof.Machine.execHeaderRead data s
  | .recordRead data => Sys2Proof.Machine.execRecordRead data s
  | .retryTimerExpiry => Sys2Proof.Machine.execRetryTimerExpiry s
  | .sample d => Sys2Proof.Machine.execSample d s
  | .runEnd => Sys2Proof.Machine.execRunEnd s
  | .overlongRun => Sys2Proof.Machine.execOverlongRun s
  | .predictionMiss => Sys2Proof.Machine.execPredictionMiss s
  | .gainMeasurement => Sys2Proof.Machine.execGainMeasurement s
  | .outputPeriodEnd => Sys2Proof.Machine.execOutputPeriodEnd s
  | .trialEnd => Sys2Proof.Machine.execTrialEnd s
  | .symbolBoundary windowFirst => Sys2Proof.Machine.execSymbolBoundary windowFirst s
  | .framePass => Sys2Proof.Machine.execFramePass s
  | .holdLimit => Sys2Proof.Machine.execHoldLimit s
  | .merMeasurement mer t => Sys2Proof.Machine.execMerMeasurement mer t s
  | .profileUpdate peaks => Sys2Proof.Machine.execProfileUpdate peaks s
  | .syncFound t => Sys2Proof.Machine.execSyncFound t s
  | .frameCheck report => Sys2Proof.Machine.execFrameCheck report s
  | .packetDecoded b report => Sys2Proof.Machine.execPacketDecoded b report s
  | .reportExpiry shareFirst => Sys2Proof.Machine.execReportExpiry shareFirst s
  | .admissionTick => Sys2Proof.Machine.execAdmissionTick s
  | .handoverTimerExpiry => Sys2Proof.Machine.execHandoverTimerExpiry s
  | .suspensionHoldEnd entry => Sys2Proof.Machine.execSuspensionHoldEnd entry s
  | .addressClashHoldEnd => Sys2Proof.Machine.execAddressClashHoldEnd s
  | .busIdle => Sys2Proof.Machine.execBusIdle s
  | .startBit => Sys2Proof.Machine.execStartBit s
  | .arbitrationWon => Sys2Proof.Machine.execArbitrationWon s
  | .arbitrationLost => Sys2Proof.Machine.execArbitrationLost s
  | .readbackMismatch => Sys2Proof.Machine.execReadbackMismatch s
  | .frameSent => Sys2Proof.Machine.execFrameSent s
  | .statusReceived f => Sys2Proof.Machine.execStatusReceived f s
  | .takeReceived f => Sys2Proof.Machine.execTakeReceived f s
  | .yieldReceived f => Sys2Proof.Machine.execYieldReceived f s
  | .payloadReceived h => Sys2Proof.Machine.execPayloadReceived h s
  | .receiveError b => Sys2Proof.Machine.execReceiveError b s
  | .silenceAssert => Sys2Proof.Machine.execSilenceAssert s
  | .silenceRelease => Sys2Proof.Machine.execSilenceRelease s
  | .handoverFlashEnd => Sys2Proof.Machine.execHandoverFlashEnd s
  | .ownAddressFrame b => Sys2Proof.Machine.execOwnAddressFrame b s

end Sys2Proof.Machine
end

