-- ==== Sys2Proof/Safety.lean ====
section
/-! DEFINITION. Safety.lean: what counts as a sound state of the station, in the terms the statements use. Each predicate is
what one of the numbered rules says always holds; none restricts which commands may come. -/

namespace Sys2Proof.Machine

/-- The payload queues never hold more than 8, 16 and 8 packets (R96). -/
def queuesSound (s : State) : Prop :=
  s.ri.premium.length ≤ 8 ∧ s.ri.standard.length ≤ 16 ∧ s.ri.spare.length ≤ 8

/-- The ring never holds more than 128 entries, the lead list never more than 32, at no time are both non-empty, and the last
released signature is none whenever the lead list is not empty (R144, R149). -/
def storesSound (h : HoldBack) : Prop :=
  h.ring.length ≤ 128 ∧ h.lead.length ≤ 32 ∧ (h.ring = [] ∨ h.lead = []) ∧ (h.lead ≠ [] → h.lastReleased = none)

/-- Before configuration completes the GAU is in IDLE and the role is ABSENT (R6, R120, R178). -/
def startupSound (s : State) : Prop := s.loader.state ≠ .complete → s.gau.acq = .idle ∧ s.ou.role = .absent

/-- The credit lies within −100 × burst .. +100 × burst, and is 0 whenever the role is not OWNER (R167). -/
def creditSound (s : State) : Prop :=
  -(100 * (s.cfg.burst : Int)) ≤ s.sau.credit ∧ s.sau.credit ≤ 100 * (s.cfg.burst : Int)
    ∧ (s.ou.role ≠ .owner → s.sau.credit = 0)

/-- The smoothed merit lies in 0..1000, and is 0 whenever the acquisition state is not TRACK (R73). -/
def meritSound (s : State) : Prop := s.pru.smoothed ≤ 1000 ∧ (s.gau.acq ≠ .track → s.pru.smoothed = 0)

/-- The delays rise with no two entries less than 5 ES apart (R25). -/
def spaced (paths : List Path) : Prop := paths.Pairwise fun a b => a.delay + 5 ≤ b.delay

/-- An entry's fields lie in their ranges (R25). -/
def pathInRange (e : Path) : Prop := -2048 ≤ e.delay ∧ e.delay ≤ 6143 ∧ e.power ≤ 65535 ∧ e.age ≤ 8

/-- The path list holds at most 8 entries, in strictly ascending delay order, no two less than 5 ES apart, each in range
(R25). -/
def pathsSound (paths : List Path) : Prop := paths.length ≤ 8 ∧ spaced paths ∧ ∀ e ∈ paths, pathInRange e

/-- The peer view is in ascending order of address, never two entries with one address, and never holds the station's own
address; while RESET is low it is empty (R116, R193). -/
def peersSound (s : State) : Prop :=
  (s.ou.peers.Pairwise fun a b => a.address < b.address) ∧ (∀ p ∈ s.ou.peers, p.address ≠ s.loader.address)
    ∧ (s.resetLow = true → s.ou.peers = [])

/-- A PAYLOAD is in arbitration or in transmission. -/
def sendsPayload : Transmission → Bool
  | .arbitrating (.payload _) => true
  | .transmitting (.payload _ _) => true
  | .silent => false
  | .arbitrating .yield => false
  | .arbitrating .take => false
  | .arbitrating .status => false
  | .transmitting (.status _) => false
  | .transmitting (.take _) => false
  | .transmitting (.yield _) => false

/-- The station drives the line only while SILENCE is released, no address clash hold stands and RESET is high, and sends a
PAYLOAD only while its role is OWNER (R91, R99, R112, R193). -/
def lineSound (s : State) : Prop :=
  (s.resetLow = true → s.ri.tx = .silent) ∧ (s.ri.tx ≠ .silent → mayTransmit s = true)
    ∧ (sendsPayload s.ri.tx = true → s.ou.role = .owner)

/-- The drop count of a class (R103). -/
def dropsOf (cls : ServiceClass) (ri : Riser) : ReportedCount :=
  match cls with
  | .premium => ri.dropsPremium
  | .standard => ri.dropsStandard
  | .spare => ri.dropsSpare

/-- How many packets of a class are lost with what is on the line: one, when a PAYLOAD of that class is in transmission (R101). -/
def lineDrop (cls : ServiceClass) : Transmission → Nat
  | .transmitting (.payload h _) => if h.cls = cls then 1 else 0
  | .transmitting (.status _) => 0
  | .transmitting (.take _) => 0
  | .transmitting (.yield _) => 0
  | .arbitrating _ => 0
  | .silent => 0

/-- What a cut-off of station `s`, at SILENCE or an address clash, leaves of role, timer, STATUS slot and hold-back stores (R136,
R137, R142, R159): OWNER, TAKING and YIELDING fall with a STATUS requested, to STANDBY with the stores as they stand in TRACK or
HOLD, and to ABSENT with empty stores below HOLD; STANDBY and ABSENT keep role and stores. -/
def cutOff (s t : State) : Prop :=
  ((s.ou.role = .owner ∨ s.ou.role = .taking ∨ s.ou.role = .yielding) → t.ou.handoverTimer = none ∧ t.ri.statusSlot = true
    ∧ t.hbu.phase = .none
    ∧ (s.gau.acq = .track ∨ s.gau.acq = .hold → t.ou.role = .standby ∧ t.hbu.ring = s.hbu.ring ∧ t.hbu.lead = s.hbu.lead
      ∧ t.hbu.lastReleased = s.hbu.lastReleased)
    ∧ (s.gau.acq ≠ .track → s.gau.acq ≠ .hold → t.ou.role = .absent ∧ t.hbu.ring = [] ∧ t.hbu.lead = []
      ∧ t.hbu.lastReleased = none))
  ∧ ((s.ou.role = .standby ∨ s.ou.role = .absent) → t.ou.role = s.ou.role ∧ t.hbu = s.hbu ∧ t.ri.statusSlot = false)

/-- The cause is present in the recovery cause set (R17). -/
def causePresent (c : Cause) (set : CauseSet) : Bool :=
  match c with
  | .frameLost => set.frameLost
  | .signallingChanged => set.signallingChanged
  | .errorBurst => set.errorBurst
  | .erasureBurst => set.erasureBurst
  | .windowJump => set.windowJump
  | .gainClipped => set.gainClipped

/-- A frame whose fields lie in the ranges the spec gives them. -/
def frameSound : Frame → Prop
  | .status f => f.wf = true
  | .take f => f.wf = true
  | .yield _ => True
  | .payload h _ => h.wf = true

/-- A STEP in waiting lies at most the slew from the applied position, which is what R37 computes and R39 relies on; before
configuration completes nothing waits (R41, R178). -/
def windowSound (s : State) : Prop :=
  (s.loader.state ≠ .complete → s.wu.mark = .none)
    ∧ (s.wu.mark = .step → (s.wu.pendingPos - s.wu.applied).natAbs ≤ s.cfg.slew)

/-- No frame is waiting for an attempt that could be made now (R91). -/
def attemptSettled (s : State) : Prop := s.ri.busView = .idle → s.ri.tx = .silent → allowedFrame s = none

/-- RESET is high, and nothing an earlier packet's event handed on waits for its receiver (assumption log 28). -/
def running (s : State) : Prop := s.resetLow = false ∧ s.waiting = nothingWaits

/-- No frame pass or hold limit that a symbol boundary made due waits to be taken (assumption log 8). -/
def noCountDue (s : State) : Prop := passDue s = false ∧ holdLimitDue s = false

/-- Nothing is due before the next sample (assumption log 8), and no frame waits for an attempt. -/
def nothingDue (s : State) : Prop :=
  runEndDue s.cfg.runEnd s.ib = false ∧ overlongDue s.ib = false ∧ missOverdue s.ib = false
    ∧ measurementDue s = false ∧ trialDue s = false ∧ boundaryDue s.wu = false ∧ noCountDue s ∧ attemptSettled s

/-- The record checks find a fault, as R183 lists the faults. -/
def imageFaulty (kept : List Record) : Prop :=
  (payloadsOf .station kept).length ≠ 1 ∨ 1 < (payloadsOf .reception kept).length ∨ 1 < (payloadsOf .share kept).length
    ∨ (∃ p ∈ payloadsOf .station kept, p.length ≠ 11) ∨ (∃ p ∈ payloadsOf .reception kept, p.length ≠ 10)
    ∨ (∃ p ∈ payloadsOf .share kept, p.length ≠ 5)
    ∨ (∃ p ∈ payloadsOf .service kept, p.length = 0 ∨ p.length % 8 ≠ 0)
    ∨ 32 < ((payloadsOf .service kept).map fun p => p.length / 8).sum
    ∨ ∃ p ∈ payloadsOf .service kept, ∃ i < p.length / 8, 2 < u8At p (8 * i + 4) ∨ 2 < u8At p (8 * i + 7)
        ∨ (u8At p (8 * i + 4) = 2 ∧ (u16At p (8 * i + 2) ≠ 1 ∨ 8191 ≤ u16At p (8 * i + 5)))

/-- The bytes fail a receive check, as R107 lists the checks. -/
def frameFails (b : List Byte) : Prop :=
  let type := u8At b 1
  let cls := u8At b 0 / 64
  b.length < 2 ∨ (type ≠ 1 ∧ type ≠ 2 ∧ type ≠ 3 ∧ type ≠ 4)
    ∨ (type = 1 ∧ b.length ≠ 22) ∨ (type = 2 ∧ b.length ≠ 9) ∨ (type = 3 ∧ b.length ≠ 8) ∨ (type = 4 ∧ b.length ≠ 197)
    ∨ crc16 (b.take (b.length - 2)) ≠ sigAt b (b.length - 2) ∨ u8At b 0 % 4 ≠ 0
    ∨ (type ≠ 4 ∧ cls ≠ 0) ∨ (type = 4 ∧ (cls = 0 ∨ u8At b 2 / 2 % 4 ≠ cls))
    ∨ (type = 1 ∧ (6 ≤ u8At b 3 / 32 ∨ 1000 < u16At b 4 ∨ 4095 < u16At b 6 ∨ 4095 < u16At b 8))
    ∨ (type = 2 ∧ 1000 < u16At b 3)

/-- The best of the peers that satisfy `p`: of highest merit, and of lowest address among equals (R124, R125). -/
def bestPeer (p : Peer → Prop) (peers : List Peer) (best : Peer) : Prop :=
  best ∈ peers ∧ p best ∧ ∀ x ∈ peers, p x →
    x.merit < best.merit ∨ (x.merit = best.merit ∧ best.address ≤ x.address)

/-- A qualifying rival of this station (R118, R125). -/
def qualifyingRival (s : State) (p : Peer) : Prop :=
  p.liveness = .live ∧ p.group = s.cfg.group ∧ p.role = .standby ∧ p.acq = .track ∧ s.cfg.meritFloor ≤ p.merit

/-- A rival OWNER of this station (R118, R124). -/
def rivalOwning (s : State) (p : Peer) : Prop := p.liveness = .live ∧ p.group = s.cfg.group ∧ p.role = .owner

/-- A packet of a class passes its credit test (R171, R172). -/
def passesTest (cls : ServiceClass) (s : State) : Prop :=
  cls = .premium ∨ (cls = .standard ∧ 100 ≤ s.sau.credit)
    ∨ (cls = .spare ∧ 100 + 50 * (s.cfg.burst : Int) ≤ s.sau.credit)

/-- The last owner signature: the last signature in the entry of the last payload sender (R119). -/
def lastHeard (sender : Option Address) (peers : List Peer) : Option Signature :=
  sender.bind fun a => (peerOf a peers).bind Peer.lastSignature

/-- The stores of a station that has just become OWNER on an anchor: what the anchor's resolution leaves (R122, R151), and where
that is DRAIN, what one drain offer then leaves: the ring less at most two of its oldest entries, and LIVE when none is left
(R155 to R157). -/
def ownsFrom (anchor : Option Signature) (before after : HoldBack) : Prop :=
  let h := resolveAnchor anchor before
  (h.phase ≠ .drain → after = h)
  ∧ (h.phase = .drain → ∃ gone : List RingEntry, gone.length ≤ 2 ∧ h.ring = gone ++ after.ring
      ∧ after = { h with ring := after.ring, phase := if after.ring = [] then .live else .drain })

/-- What an unseen path list entry becomes in an update, `[]` when it leaves the list (R33). -/
def unseenEntry (e : Path) : List Path :=
  match e.state with
  | .new => []
  | .confirmed => [{ e with state := .fading, age := 1 }]
  | .fading => if 7 ≤ e.age then [] else [{ e with age := e.age + 1 }]

/-- A peak lies more than 4 ES from every entry (R28). -/
def apart (delay : Int) (paths : List Path) : Prop := ∀ e ∈ paths, 4 < (e.delay - delay).natAbs

/-! ## Which blocks a command reaches -/

/-- The parts of the state by block. -/
inductive Block where
  | loader | cfg | gau | ib | wu | pru | services | waiting | ri | ou | hbu | sau | iu
  deriving DecidableEq, Repr

/-- A change of role and all it brings with it (R96, R99, R142, R166, R167, R189, R191). -/
def roleBlocks : List Block := [.ri, .ou, .hbu, .sau, .iu]

/-- A change of the acquisition state and all it brings with it (R1, R20, R41, R48, R61, R121). -/
def acquisitionBlocks : List Block := [.gau, .ib, .wu, .pru] ++ roleBlocks

/-- The blocks a command can change while nothing waits: those that own the rules of the command, and those that a change of
acquisition state or role reaches. RESET sets them all. -/
def blocksOf : Instr → List Block
  | .reset => [.loader, .cfg, .services, .waiting] ++ acquisitionBlocks
  | .resetEnd _ => [.loader]
  | .resetEnableCommand => [.loader]
  | .resetCommand => [.loader]
  | .recoveryWaitEnd => [.loader]
  | .headerRead _ => [.loader, .cfg, .services, .ou, .sau, .gau, .ib, .iu]
  | .recordRead _ => [.loader, .cfg, .services, .ou, .sau, .gau, .ib, .iu]
  | .retryTimerExpiry => [.loader]
  | .sample _ => acquisitionBlocks
  | .runEnd => [.ib]
  | .overlongRun => [.ib]
  | .predictionMiss => [.ib]
  | .gainMeasurement => acquisitionBlocks
  | .outputPeriodEnd => [.gau]
  | .trialEnd => [.gau, .ib, .wu] ++ roleBlocks
  | .symbolBoundary _ => acquisitionBlocks
  | .framePass => acquisitionBlocks
  | .holdLimit => acquisitionBlocks
  | .merMeasurement _ boundaryTaken => if boundaryTaken then acquisitionBlocks else [.pru]
  | .profileUpdate _ => [.wu]
  | .syncFound _ => acquisitionBlocks
  | .frameCheck _ => acquisitionBlocks
  | .packetDecoded _ _ => [.gau, .pru, .services, .waiting] ++ roleBlocks
  | .reportExpiry _ => [.pru, .services] ++ roleBlocks
  | .admissionTick => [.sau]
  | .handoverTimerExpiry => roleBlocks
  | .suspensionHoldEnd _ => [.services]
  | .addressClashHoldEnd => [.ri, .iu]
  | .busIdle => [.ri]
  | .startBit => [.ri]
  | .arbitrationWon => [.ri, .gau]
  | .arbitrationLost => [.ri]
  | .readbackMismatch => .gau :: roleBlocks
  | .frameSent => .gau :: roleBlocks
  | .statusReceived _ => .gau :: roleBlocks
  | .takeReceived _ => .gau :: roleBlocks
  | .yieldReceived _ => .gau :: roleBlocks
  | .payloadReceived _ => .gau :: .services :: roleBlocks
  | .receiveError _ => [.ri]
  | .silenceAssert => .gau :: roleBlocks
  | .silenceRelease => [.ri]
  | .handoverFlashEnd => [.iu]
  | .ownAddressFrame _ => .gau :: roleBlocks

/-- A block as it stands is the same in two states. -/
def sameBlock (s t : State) : Block → Prop
  | .loader => t.loader = s.loader
  | .cfg => t.cfg = s.cfg
  | .gau => t.gau = s.gau
  | .ib => t.ib = s.ib
  | .wu => t.wu = s.wu
  | .pru => t.pru = s.pru
  | .services => t.services = s.services
  | .waiting => t.waiting = s.waiting
  | .ri => t.ri = s.ri
  | .ou => t.ou = s.ou
  | .hbu => t.hbu = s.hbu
  | .sau => t.sau = s.sau
  | .iu => t.iu = s.iu

end Sys2Proof.Machine
end

