-- ==== Sys2Proof/Certificates/Slice0/Obligations.lean ====
section
/-! DEFINITION. Certificates/Slice0/Obligations.lean: the statements for the provers. Each docstring names the rules the
statement formalises; a clause that rests on a choice of the model names its log entry. -/

open Sys2Proof Sys2Proof.Machine

/-! ## The step, reset and the reset gate -/

/-- A step runs the command at the front of the queue with the queue's rest. On an empty queue the block idles. The model's
choice: assumption log 1. -/
def Obligations.StepRunsFrontCommandOrIdles : Prop :=
  (∀ (c : Instr) (rest : List Instr) (s : State), s.pending = c :: rest → step s = exec c { s with pending := rest })
  ∧ (∀ s : State, s.pending = [] → step s = .next s)

/-- R193: RESET held low holds every block at its reset values; FAULT is released and LAMP off (R189, R192). R193: while RESET
is low the SILENCE pin's two changes set its level and nothing else, and no other command but the reset commands changes
anything; a level held at the end of reset takes effect from the first moment after it: under SILENCE the station may start no
frame. Two things here are the model's: the values in it that the spec gives no reset value (assumption log 6), and that the
SILENCE level, the queue and the counter of free values outlast RESET while SILENCE acts on its level alone (assumption
log 20). -/
def Obligations.ResetPinHoldsStation : Prop :=
  (∀ s : State, ∃ t, exec .reset s = .next t
    ∧ t = { State.reset with pending := s.pending, freeCount := s.freeCount, silence := s.silence }
    ∧ t.resetLow = true ∧ faultAsserted t = false ∧ (∀ n, lampHigh t n = false))
  ∧ (∀ s : State, s.resetLow = true →
    exec .silenceAssert s = .next { s with silence := true }
    ∧ exec .silenceRelease s = .next { s with silence := false }
    ∧ (∀ c, c ≠ .reset → (∀ straps, c ≠ .resetEnd straps) → c ≠ .silenceAssert → c ≠ .silenceRelease →
      exec c s = .next s)
    ∧ ∀ straps, ∃ t, exec (.resetEnd straps) s = .next t ∧ t.resetLow = false ∧ t.silence = s.silence
      ∧ (s.silence = true → allowedFrame t = none))

/-- The reset values the spec gives, as its tables of reset values gather them for GAU, IB, WU, PRU, RI and OU, and R75, R139,
R141, R144, R159 to R163, R167, R168, R178, R182, R184, R186, R189 and R191 for the rest. Three of them are the model's: a
record count of 0 before the first fetch sets it (assumption log 6), no idle heard yet (assumption log 31), and nothing on its
way between blocks (assumption log 28). -/
def Obligations.ResetValuesAsSpecified : Prop :=
  (State.reset.gau.acq = .idle ∧ State.reset.gau.appliedDuty = 512 ∧ State.reset.gau.pendingDuty = 512
    ∧ State.reset.gau.transferPending = false ∧ State.reset.gau.rms = .target ∧ State.reset.gau.clipRun = 0
    ∧ State.reset.gau.measurementCount = 0 ∧ State.reset.gau.settleRun = 0 ∧ State.reset.gau.noSignalRestarts = 0
    ∧ State.reset.gau.failedTrials = 0 ∧ State.reset.gau.held = none ∧ State.reset.gau.subState = .search
    ∧ State.reset.gau.passCount = 0 ∧ State.reset.gau.searchCount = 0 ∧ State.reset.gau.candidate = none
    ∧ State.reset.gau.current = none ∧ State.reset.gau.syncMissRun = 0 ∧ State.reset.gau.holdCount = 0
    ∧ State.reset.gau.causes = noCauses ∧ State.reset.gau.carried = noCauses ∧ State.reset.gau.fallsHold = 0
    ∧ State.reset.gau.fallsFrame = 0 ∧ State.reset.gau.fallsSymbol = 0)
  ∧ (State.reset.ib.stamp = 0 ∧ State.reset.ib.runState = .quiet ∧ State.reset.ib.quietCount = 0
    ∧ State.reset.ib.suspended = false ∧ State.reset.ib.burstRun = 0 ∧ State.reset.ib.history = []
    ∧ State.reset.ib.prediction = .unarmed)
  ∧ (State.reset.wu.grid = none ∧ State.reset.wu.symbolIndex = 0 ∧ State.reset.wu.frameCounter = 0
    ∧ State.reset.wu.paths = [] ∧ State.reset.wu.erasedCount = 0 ∧ State.reset.wu.applied = 0
    ∧ State.reset.wu.pendingPos = 0 ∧ State.reset.wu.mark = .none)
  ∧ (State.reset.pru.errorRun = 0 ∧ State.reset.pru.slot = .empty ∧ State.reset.pru.tallies = .zero
    ∧ State.reset.pru.smoothed = 0 ∧ State.reset.pru.fresh = true ∧ State.reset.pru.signalling = none)
  ∧ State.reset.services = [] ∧ State.reset.waiting = nothingWaits
  ∧ (State.reset.ri.busView = .busy ∧ State.reset.ri.heardIdle = false ∧ State.reset.ri.yieldSlot = none
    ∧ State.reset.ri.takeSlot = none ∧ State.reset.ri.statusSlot = false ∧ State.reset.ri.premium = []
    ∧ State.reset.ri.standard = [] ∧ State.reset.ri.spare = [] ∧ State.reset.ri.tx = .silent
    ∧ State.reset.ri.lastSent = none ∧ State.reset.ri.dropsPremium = .zero ∧ State.reset.ri.dropsStandard = .zero
    ∧ State.reset.ri.dropsSpare = .zero ∧ State.reset.ri.receiveErrors = .zero ∧ State.reset.ri.clashFlag = false
    ∧ State.reset.ri.clashCarried = false ∧ State.reset.ri.clashHold = none)
  ∧ (State.reset.ou.reportTimer = none ∧ State.reset.ou.peers = [] ∧ State.reset.ou.lastPayloadSender = none
    ∧ State.reset.ou.emptyMark = false ∧ State.reset.ou.previousMark = false ∧ State.reset.ou.role = .absent
    ∧ State.reset.ou.challengeCount = 0 ∧ State.reset.ou.handoverTimer = none)
  ∧ (State.reset.hbu.ring = [] ∧ State.reset.hbu.lead = [] ∧ State.reset.hbu.lastReleased = none
    ∧ State.reset.hbu.phase = .none ∧ State.reset.hbu.catchUpCount = 0)
  ∧ (State.reset.sau.offered = 0 ∧ State.reset.sau.demand = 0 ∧ State.reset.sau.share = 0 ∧ State.reset.sau.credit = 0)
  ∧ (State.reset.loader.state = .fetching ∧ State.reset.loader.recordCount = 0 ∧ State.reset.loader.clamped = false
    ∧ State.reset.loader.retryTimer = none)
  ∧ State.reset.iu.pattern = .off ∧ State.reset.iu.flash = none

/-! ## Start-up and configuration memory -/

/-- R179: a fetch opens with 66h, then 99h, then the recovery wait with the select line high, then the header read of address 0
with its dummy byte; nothing else of the state changes on the way. R184: at the retry timer's expiry a fresh fetch begins
with the memory reset pair and the loader state stays at CONFIG_FAULT. R179: every transaction has the select line low for
its driven and read bytes and high after them, eight clocks a byte, driven bytes most significant bit first; a read drives
0Bh, its address and one dummy byte of 0, and clocks the bytes it needs. How few bytes a read that finds a fault clocks is
the model's: assumption log 32. -/
def Obligations.FetchRunsItsTransactions : Prop :=
  (∀ s : State, running s → s.loader.state ≠ .complete →
    (s.loader.stage = .resetEnable → portBytes s.loader.stage = [0x66#8]
      ∧ exec .resetEnableCommand s = .next { s with loader := { s.loader with stage := .resetCommand } })
    ∧ (s.loader.stage = .resetCommand → portBytes s.loader.stage = [0x99#8]
      ∧ exec .resetCommand s = .next { s with loader := { s.loader with stage := .recoveryWait } })
    ∧ (s.loader.stage = .recoveryWait → selectLow s.loader.stage = false
      ∧ exec .recoveryWaitEnd s = .next { s with loader := { s.loader with stage := .headerRead } }
      ∧ portBytes .headerRead = [0x0B#8, 0x00#8, 0x00#8, 0x00#8, 0x00#8]))
  ∧ (∀ (s : State) (n : Nat), running s → s.loader.state = .configFault → s.loader.retryTimer = some n →
    exec .retryTimerExpiry s = .next { s with loader := { s.loader with
      stage := .resetEnable, imageLength := 0, kept := [], recordCount := 0, clamped := false, retryTimer := none } })
  ∧ (∀ (n : Nat) (stage : FetchStage) (data : List Byte), selectLow stage = true →
    ∃ during, portLevels n stage data = during ++ [{ selectLow := false, clockHigh := false, dataOut := none }]
      ∧ (∀ p ∈ during, p.selectLow = true)
      ∧ (during.filter PortLevels.clockHigh).length = 8 * ((portBytes stage).length + dataBytes n stage data)
      ∧ ((during.filter PortLevels.clockHigh).take (8 * (portBytes stage).length)).map PortLevels.dataOut
        = (portBytes stage).flatMap fun b => [some (b.getLsbD 7), some (b.getLsbD 6), some (b.getLsbD 5),
            some (b.getLsbD 4), some (b.getLsbD 3), some (b.getLsbD 2), some (b.getLsbD 1), some (b.getLsbD 0)])
  ∧ (∀ a : Nat, a < 16777216 → ∃ h m l : Byte, portBytes (.recordRead a) = [0x0B#8, h, m, l, 0x00#8]
      ∧ a = 65536 * h.toNat + 256 * m.toNat + l.toNat)
  ∧ (∀ (n : Nat) (data : List Byte), u16At data 0 = 0x4C31 → 8 ≤ u24At data 2 → dataBytes n .headerRead data = 8)
  ∧ (∀ (n a : Nat) (data : List Byte), 1 ≤ u8At data 0 → u8At data 0 ≤ 4 → a + (6 + u16At data 1 + 2) ≤ n →
      dataBytes n (.recordRead a) data = 6 + u16At data 1 + 2)

/-- R177, R178: at the end of reset the straps give the address, the first strap its most significant bit, and the fetch begins
with the reset-enable transaction. R181, R182: a good header with records starts the chain walk at the first record address.
R182: which bytes are a good record: a known kind, wholly within the image, its stored CRC-16 the one computed over header and
payload; and such a record, not the 41st, is counted and kept and the walk goes on to its next-record address. -/
def Obligations.FetchBeginsAndWalksChain : Prop :=
  (∀ (straps : BitVec 4) (s : State), s.resetLow = true →
    ∃ a : Address,
      a.val = 8 * (straps.getLsbD 3).toNat + 4 * (straps.getLsbD 2).toNat + 2 * (straps.getLsbD 1).toNat
        + (straps.getLsbD 0).toNat
      ∧ exec (.resetEnd straps) s = .next { s with
          resetLow := false
          loader := { s.loader with
            address := a, stage := .resetEnable, imageLength := 0, kept := [], recordCount := 0, clamped := false } })
  ∧ (∀ (data : List Byte) (s : State), running s → s.loader.state ≠ .complete →
    s.loader.stage = .headerRead → u16At data 0 = 0x4C31 → 8 ≤ u24At data 2 →
    8 ≤ u24At data 5 → u24At data 5 < u24At data 2 →
    exec (.headerRead data) s = .next { s with loader := { s.loader with
      imageLength := u24At data 2, stage := .recordRead (u24At data 5) } })
  ∧ (∀ (data : List Byte) (a : Nat) (r : Record) (s : State), running s → s.loader.state ≠ .complete →
    s.loader.stage = .recordRead a →
    recordKindOfCode (u8At data 0) = some r.kind → a + (6 + u16At data 1 + 2) ≤ s.loader.imageLength →
    crc16 (bytesAt data 0 (6 + u16At data 1)) = sigAt data (6 + u16At data 1) →
    r.payload = bytesAt data 6 (u16At data 1) →
    s.loader.recordCount < 40 → 8 ≤ u24At data 3 → u24At data 3 < s.loader.imageLength →
    exec (.recordRead data) s = .next { s with loader := { s.loader with
      kept := s.loader.kept ++ [r], recordCount := s.loader.recordCount + 1, stage := .recordRead (u24At data 3) } })

/-- R181 to R184, R192: the structural faults: a header with a wrong format word, an image length below 8 or a first record
address outside 8..length − 1 (0 included, since no record is then kept); a record of unknown kind, not wholly within the
image, or whose CRC-16 differs; and after a good record, which is counted, the 41st record, a next-record address that is
neither 0 nor within the image, and at the walk's end an image that fails the record checks of R183. Each discards what the
fetch has read, enters CONFIG_FAULT, starts the retry timer at 2000 ms, asserts FAULT and shows the double flash, and changes
no other block. That the record count keeps the value it had reached is the model's: assumption log 19. -/
def Obligations.StructuralFaultEndsFetch : Prop :=
  ∀ (c : Instr) (data : List Byte) (counted : Nat) (s : State), running s → s.loader.state ≠ .complete →
    let len := u16At data 1
    let next := u24At data 3
    ((c = .headerRead data ∧ counted = 0 ∧ s.loader.stage = .headerRead ∧ s.loader.kept = []
        ∧ (u16At data 0 ≠ 0x4C31 ∨ u24At data 2 < 8 ∨ u24At data 5 < 8 ∨ u24At data 2 ≤ u24At data 5))
      ∨ (c = .recordRead data ∧ counted = 0 ∧ ∃ a, s.loader.stage = .recordRead a
        ∧ (u8At data 0 = 0 ∨ 4 < u8At data 0 ∨ s.loader.imageLength < a + (6 + len + 2)
          ∨ crc16 (bytesAt data 0 (6 + len)) ≠ sigAt data (6 + len)))
      ∨ (c = .recordRead data ∧ counted = 1 ∧ ∃ a r, s.loader.stage = .recordRead a
        ∧ recordKindOfCode (u8At data 0) = some r.kind ∧ a + (6 + len + 2) ≤ s.loader.imageLength
        ∧ crc16 (bytesAt data 0 (6 + len)) = sigAt data (6 + len) ∧ r.payload = bytesAt data 6 len
        ∧ (40 ≤ s.loader.recordCount ∨ (next ≠ 0 ∧ (next < 8 ∨ s.loader.imageLength ≤ next))
          ∨ (next = 0 ∧ imageFaulty (s.loader.kept ++ [r]))))) →
    ∃ t, exec c s = .next t
      ∧ t = { s with
          loader := { s.loader with
            state := .configFault, stage := .idle, imageLength := 0, kept := [],
            recordCount := s.loader.recordCount + counted, retryTimer := some 2000 }
          iu := t.iu }
      ∧ t.iu.pattern = .doubleFlash ∧ t.iu.flash = (if s.iu.pattern = .doubleFlash then s.iu.flash else none)
      ∧ faultAsserted t = true

/-- R187, R6, R76, R114, R168: the walk's last record completes an image that passes the record checks of R183: the loader is
COMPLETE, the values settle, the table is built in image order, the report timer and the admission tick start, the GAU leaves
IDLE for GAIN and the role stays ABSENT. -/
def Obligations.CompletionReleasesBlocks : Prop :=
  ∀ (data : List Byte) (a : Nat) (r : Record) (s : State), running s → s.loader.state ≠ .complete →
    s.loader.stage = .recordRead a → readRecord s.loader.imageLength a data = some r →
    s.loader.recordCount < 40 → u24At data 3 = 0 → ¬imageFaulty (s.loader.kept ++ [r]) →
    s.gau.acq = .idle → s.ou.role = .absent →
    ∃ t, exec (.recordRead data) s = .next t ∧ t.loader.state = .complete ∧ t.loader.stage = .idle
      ∧ t.cfg = takenConfiguration (s.loader.kept ++ [r])
      ∧ t.services = (imageEntries (s.loader.kept ++ [r])).map loadedEntry
      ∧ t.loader.clamped = imageClamped (s.loader.kept ++ [r])
      ∧ t.ou = { s.ou with reportTimer := some t.cfg.reportPeriod } ∧ t.sau = { s.sau with ticking := true }
      ∧ t.gau.acq = .gain ∧ t.gau.measurementCount = 0 ∧ t.gau.settleRun = 0 ∧ t.ri = s.ri ∧ t.hbu = s.hbu
      ∧ t.wu = s.wu ∧ t.pru = s.pru

/-- R185, R186: each value is taken from its field: one in its range as read, one outside it as the nearer end of the range, so
that every value lies in its range; the default of a missing RECEPTION or SHARE record. R186, R76: the configuration-clamped
flag is set exactly when some field lay outside its range or a service entry's count, range or offset was changed at load. R75,
R76, R79: a loaded service entry covers only identifiers up to 8190, covers none exactly when its first identifier in the
image is 8191 or more, and forms only output identifiers up to 8190. -/
def Obligations.LoadedValuesLieInRange : Prop :=
  (∀ (kept : List Record) (p : List Byte), payloadsOf .station kept = [p] →
    let c := takenConfiguration kept
    let q := payloadsOf .reception kept
    let h := payloadsOf .share kept
    (c.group.val = min 15 (u8At p 0) ∧ c.reportPeriod = max 20 (min 500 (u16At p 1))
      ∧ c.silenceLimit = max 3 (min 15 (u8At p 3)) ∧ c.hysteresis = min 200 (u16At p 4)
      ∧ c.challengeLimit = max 1 (min 8 (u8At p 6)) ∧ c.meritFloor = min 1000 (u16At p 7)
      ∧ c.handoverTimeout = max 10 (min 200 (u8At p 9)) ∧ c.catchUpLimit = max 16 (u8At p 10))
    ∧ (∀ r, q = [r] →
      c.pinned = (if u8At r 0 = 0 then none else candidates[min 8 (u8At r 0) - 1]?)
      ∧ c.slew = max 1 (min 32 (u8At r 1)) ∧ c.peakThreshold = max 1 (u16At r 2)
      ∧ c.impulseThreshold = max 16 (min 64 (u8At r 4)) ∧ c.runEnd = max 8 (u8At r 5)
      ∧ (u8At r 6 = 0 → c.eraseFraction = .eighth) ∧ (u8At r 6 = 1 → c.eraseFraction = .sixteenth)
      ∧ (2 ≤ u8At r 6 → c.eraseFraction = .thirtySecond)
      ∧ c.holdLimit = max 8 (min 128 (u8At r 7)) ∧ c.detectThreshold = max 16 (u8At r 8))
    ∧ (∀ r, h = [r] → c.budget = max 100 (min 11000 (u16At r 0)) ∧ c.floor = min 4095 (u16At r 2)
      ∧ c.burst = max 1 (min 64 (u8At r 4)))
    ∧ (q = [] → c.pinned = none ∧ c.slew = 8 ∧ c.peakThreshold = 1024 ∧ c.impulseThreshold = 32 ∧ c.runEnd = 32
      ∧ c.eraseFraction = .sixteenth ∧ c.holdLimit = 32 ∧ c.detectThreshold = 48)
    ∧ (h = [] → c.budget = 6000 ∧ c.floor = 0 ∧ c.burst = 8))
  ∧ (∀ kept : List Record, imageClamped kept = true ↔
    (∃ p ∈ payloadsOf .station kept, 15 < u8At p 0 ∨ u16At p 1 < 20 ∨ 500 < u16At p 1 ∨ u8At p 3 < 3 ∨ 15 < u8At p 3
      ∨ 200 < u16At p 4 ∨ u8At p 6 < 1 ∨ 8 < u8At p 6 ∨ 1000 < u16At p 7 ∨ u8At p 9 < 10 ∨ 200 < u8At p 9
      ∨ u8At p 10 < 16)
    ∨ (∃ p ∈ payloadsOf .reception kept, 8 < u8At p 0 ∨ u8At p 1 < 1 ∨ 32 < u8At p 1 ∨ u16At p 2 < 1 ∨ u8At p 4 < 16
      ∨ 64 < u8At p 4 ∨ u8At p 5 < 8 ∨ 2 < u8At p 6 ∨ u8At p 7 < 8 ∨ 128 < u8At p 7 ∨ u8At p 8 < 16)
    ∨ (∃ p ∈ payloadsOf .share kept, u16At p 0 < 100 ∨ 11000 < u16At p 0 ∨ 4095 < u16At p 2 ∨ u8At p 4 < 1
      ∨ 64 < u8At p 4)
    ∨ ∃ e ∈ imageEntries kept, 1024 < e.count ∨ 8191 ≤ e.first ∨ (e.mode = 1 ∧ 8190 < e.value)
      ∨ 8191 < e.first + (if e.count = 0 then 1024 else min 1024 e.count))
  ∧ (∀ e : RawEntry, entrySound e = true →
    (loadedEntry e).first ≤ 8191 ∧ (loadedEntry e).count ≤ 1024
      ∧ ((loadedEntry e).count = 0 ↔ 8191 ≤ e.first)
      ∧ ∀ i, covers i (loadedEntry e) = true → i ≤ 8190 ∧ outputIdentifier (loadedEntry e) i ≤ 8190)

/-! ## Samples and impulse blanking -/

/-- R45, R46, R51, R56, R2: in QUIET a sample above the threshold in force starts a blanking run: it is replaced by zero and
left out of the measurement, the run state is BLANKING with quiet count 0 and run length 1, its stamp enters the history, the
oldest of four leaving first, and the prediction takes the event (R53, R54). The threshold is k/8 × RMS, and k/16 × RMS for
the 129 samples around the predicted start of an ARMED prediction (R45, R52); it is compared exactly, by powers, with a level
held exactly, the target level of −15.0 dB before the first measurement (assumption log 5). A sample at or below it in QUIET,
and any sample while blanking is suspended, passes unaltered and is measured. R46, R48: in BLANKING every sample is replaced
by zero, and one above threshold returns the quiet count to 0. With the mode held a zeroed sample raises the blanked count.
R21: the sample's place on the timing grid passes. R55: the sample of stamp predicted start + 65 leaves its miss to be
counted, unless it was counted ahead of it (assumption log 8); no other sample does. That an arming or hit sample leaves none,
whatever the period, is the model's reading (assumption log 33). R44: in IDLE every sample passes and only the stamp moves.
Stated for a sample before which nothing is due (assumption log 8). -/
def Obligations.SampleJudgedAgainstThreshold : Prop :=
  ∀ (d : Sample) (s : State), running s → nothingDue s →
    let k := s.cfg.impulseThreshold
    let m := d.toInt.natAbs
    let divisor := match s.ib.prediction with
      | .unarmed => 8
      | .armed period anchor _ => if (s.ib.stamp - (anchor + period) + 64#32).toNat ≤ 128 then 16 else 8
    let above := match s.gau.rms with
      | .measured energy count => k ^ 2 * energy < (divisor * m) ^ 2 * count
      | .target => k ^ 4 * 2048 ^ 4 < (divisor * m) ^ 4 * 1000
    let history := s.ib.history.drop (s.ib.history.length - 3) ++ [s.ib.stamp]
    let runs := s.ib.suspended = false ∧ (above ∨ s.ib.runState = .blanking)
    let missed := s.ib.miss ≠ .taken
      ∧ ∃ period anchor misses, s.ib.prediction = .armed period anchor misses ∧ s.ib.stamp = anchor + period + 65#32
    ∃ t, exec (.sample d) s = .next t ∧ t = { s with ib := t.ib, gau := t.gau, wu := t.wu }
      ∧ t.ib.stamp = s.ib.stamp + 1#32
      ∧ (s.gau.acq = .idle → t = { s with ib := { s.ib with stamp := s.ib.stamp + 1#32, out := d } })
      ∧ (s.gau.acq ≠ .idle →
        t.wu = { s.wu with grid := s.wu.grid.map fun g =>
          { g with position := if g.position + 1 < g.period then g.position + 1 else 0, taken := false } }
        ∧ t.gau.acq = s.gau.acq ∧ t.gau.rms = s.gau.rms ∧ t.gau.blockCount = s.gau.blockCount + 1
        ∧ (runs → t.ib.out = 0 ∧ t.gau.blockBlanked = s.gau.blockBlanked + 1 ∧ t.gau.blockEnergy = s.gau.blockEnergy
          ∧ t.ib.suspended = false ∧ t.ib.runState = .blanking
          ∧ ∀ c, s.gau.held = some c → s.ib.blankedCount < symbolLength c →
            t.ib.blankedCount = s.ib.blankedCount + 1)
        ∧ (runs → s.ib.runState = .quiet → t.ib.quietCount = 0 ∧ t.ib.runLength = 1 ∧ t.ib.history = history
          ∧ t.ib.prediction = predictionAfterEvent s.ib.stamp history s.ib.prediction)
        ∧ (runs → s.ib.runState = .blanking → t.ib.runLength = s.ib.runLength + 1 ∧ t.ib.history = s.ib.history
          ∧ t.ib.prediction = s.ib.prediction
          ∧ (above → t.ib.quietCount = 0) ∧ (¬above → t.ib.quietCount = s.ib.quietCount + 1))
        ∧ (missed → t.ib.miss = .owed) ∧ (¬missed → t.ib.miss = .none)
        ∧ (¬runs → t.ib = { s.ib with stamp := s.ib.stamp + 1#32, out := d, miss := t.ib.miss }
          ∧ t.gau.blockBlanked = s.gau.blockBlanked ∧ t.gau.blockEnergy = s.gau.blockEnergy + m ^ 2))

/-- R46, R47: a run whose quiet count has reached the run end ends in QUIET; a run whose length has reached 1024 ends as an
overlong run and suspends blanking (run length 0 outside a run, and quiet count 0 after an overlong one, are the model's:
assumption log 6). R55: when the sample of stamp predicted start + 65 arrives with no event inside the window, before it is
judged or after, at the latest before the next one (assumption log 8), the miss count rises and the anchor becomes the
predicted start; the third miss returns the prediction to UNARMED; each arrival counts one miss at most, whatever the period,
and at no other sample is there one. R52, R53, R54: an event arms an UNARMED prediction exactly when its stamp completes four
whose two older intervals differ from the latest by no more than ⌊latest / 64⌋ and the latest is at least 256 ES; while ARMED,
an event inside the 129 samples around the predicted start is a hit, and one outside leaves the prediction as it stands. -/
def Obligations.RunsEndAndPredictionFollows : Prop :=
  (∀ s : State, running s → s.ib.runState = .blanking →
    (s.cfg.runEnd ≤ s.ib.quietCount → s.ib.runLength < 1024 →
      exec .runEnd s = .next { s with ib := { s.ib with runState := .quiet, quietCount := 0, runLength := 0 } })
    ∧ (1024 ≤ s.ib.runLength →
      exec .overlongRun s = .next { s with ib := { s.ib with
        runState := .quiet, quietCount := 0, runLength := 0, suspended := true } }))
  ∧ (∀ (period anchor : Stamp) (misses : Nat) (s : State), running s →
    s.ib.prediction = .armed period anchor misses →
    let counted := if misses < 2 then Prediction.armed period (anchor + period) (misses + 1) else .unarmed
    (s.ib.miss = .owed → exec .predictionMiss s = .next { s with ib := { s.ib with prediction := counted, miss := .none } }
      ∧ ∀ (d : Sample) (t : State), exec .predictionMiss s = .next t → exec (.sample d) s = exec (.sample d) t)
    ∧ (s.ib.miss = .none → s.ib.stamp = anchor + period + 65#32 →
      exec .predictionMiss s = .next { s with ib := { s.ib with prediction := counted, miss := .taken } })
    ∧ (s.ib.miss ≠ .owed → (s.ib.miss = .taken ∨ s.ib.stamp ≠ anchor + period + 65#32) →
      exec .predictionMiss s = .next s))
  ∧ (∀ (t : Stamp) (h : List Stamp) (p : Stamp) (a : Stamp) (m : Nat),
    predictionAfterEvent t h .unarmed = .armed p a m ↔
      ∃ x y z, h = [x, y, z, a] ∧ p = a - z ∧ m = 0 ∧ 256 ≤ (a - z).toNat
        ∧ ((y - x).toNat : Int) - (a - z).toNat ≤ (a - z).toNat / 64
        ∧ ((a - z).toNat : Int) - (y - x).toNat ≤ (a - z).toNat / 64
        ∧ ((z - y).toNat : Int) - (a - z).toNat ≤ (a - z).toNat / 64
        ∧ ((a - z).toNat : Int) - (z - y).toNat ≤ (a - z).toNat / 64)
  ∧ (∀ (h : List Stamp) (p a : Stamp) (m : Nat) (k : Nat), k ≤ 128 →
      predictionAfterEvent (a + p - 64#32 + BitVec.ofNat 32 k) h (.armed p a m)
        = .armed (a + p - 64#32 + BitVec.ofNat 32 k - a) (a + p - 64#32 + BitVec.ofNat 32 k) 0)
  ∧ (∀ (t : Stamp) (h : List Stamp) (p a : Stamp) (m : Nat), 128 < (t - (a + p) + 64#32).toNat →
      predictionAfterEvent t h (.armed p a m) = .armed p a m)

/-! ## Gain and acquisition -/

/-- R3: at each measurement that is not void, of gain error e (R2), the pending duty becomes the applied duty minus e/4,
truncated toward zero and clamped to ±32, clamped to 0..1023; the applied duty stands, so the next measurement computes from
it again; errors of −9 and +3 give steps of −2 and 0; both duties are 512 at reset with no transfer pending. -/
def Obligations.MeasurementSetsPendingDuty : Prop :=
  (∀ s : State, running s → s.gau.acq ≠ .idle → s.gau.blockCount = 1024 → s.gau.blockBlanked ≤ 512 →
    ∃ t, exec .gainMeasurement s = .next t
      ∧ t.gau.appliedDuty = s.gau.appliedDuty ∧ t.gau.transferPending = true
      ∧ (t.gau.pendingDuty : Int) = max 0 (min 1023 ((s.gau.appliedDuty : Int)
          - max (-32) (min 32 ((gainError s.gau.blockEnergy (1024 - s.gau.blockBlanked)).tdiv 4)))))
  ∧ gainStep (-9) = -2 ∧ gainStep 3 = 0
  ∧ State.reset.gau.appliedDuty = 512 ∧ State.reset.gau.pendingDuty = 512
  ∧ State.reset.gau.transferPending = false

/-- R2: the measured level lies in −900..0 and is 200 × log10 (RMS / 2048) rounded down, said without a logarithm: raised to
the power 100, the mean square reaches 2048² × 10^(level) and, below level 0, not 2048² × 10^(level + 1); anything below −900
reads −900. The RMS is held exactly: assumption log 5. R4: at the end of an output period a pending duty computed since the
last transfer becomes the applied duty, and without one the applied duty is kept; in a period the output is high for exactly
as many of the 1024 gain-clock periods as the applied duty, from the start of the period. -/
def Obligations.LevelMeasuredAndDutyOutput : Prop :=
  (∀ energy count : Nat, 0 < count →
    let n := (-(measuredLevel energy count)).toNat
    measuredLevel energy count ≤ 0 ∧ -900 ≤ measuredLevel energy count
      ∧ (n < 900 → (count * 2048 ^ 2) ^ 100 ≤ energy ^ 100 * 10 ^ n)
      ∧ (∀ m < n, energy ^ 100 * 10 ^ m < (count * 2048 ^ 2) ^ 100))
  ∧ ∀ s : State, running s →
    exec .outputPeriodEnd s = .next { s with gau := { s.gau with
      appliedDuty := if s.gau.transferPending then s.gau.pendingDuty else s.gau.appliedDuty,
      transferPending := false } }
    ∧ (s.gau.appliedDuty ≤ 1023 → ((List.range 1024).filter (gainHigh s)).length = s.gau.appliedDuty
      ∧ ∀ i j, j ≤ i → gainHigh s i = true → gainHigh s j = true)

/-- R2, R47: a measurement that is not void hands on its RMS level (held exactly: assumption log 5) and ends the suspension of
blanking; a void one does neither and leaves the pending duty. R7: in GAIN a measurement counts; one within ±10 raises the
settle run, any other and a void one return it to 0; the one that brings the run to 8 clears the no-signal restart count and
enters SYMBOL, the 200th included; the 200th that does not begins GAIN again, counted, with the impulse history emptied and
the prediction UNARMED, the applied duty untouched. R5, R15, R16: in TRACK a measurement whose error pushes the duty past the
end it sits at raises the clip run, at 64 records GAIN_CLIPPED, returns the run to 0 and enters HOLD; any other returns it to
0. -/
def Obligations.GainMeasurementMovesAcquisition : Prop :=
  (∀ s : State, running s → s.gau.acq ≠ .idle → s.gau.blockCount = 1024 →
    ∃ t, exec .gainMeasurement s = .next t ∧ t.gau.blockCount = 0 ∧ t.gau.blockBlanked = 0 ∧ t.gau.blockEnergy = 0
      ∧ (s.gau.blockBlanked ≤ 512 →
        t.gau.rms = .measured s.gau.blockEnergy (1024 - s.gau.blockBlanked) ∧ t.ib.suspended = false)
      ∧ (512 < s.gau.blockBlanked → t.gau.rms = s.gau.rms ∧ t.gau.pendingDuty = s.gau.pendingDuty
        ∧ t.gau.transferPending = s.gau.transferPending ∧ t.gau.clipRun = s.gau.clipRun
        ∧ (s.gau.acq ≠ .gain ∨ s.gau.measurementCount < 199 → s.gau.settleRun ≤ 7 → t.gau.acq = s.gau.acq
          ∧ t.ib = s.ib)))
  ∧ (∀ s : State, running s → s.gau.acq = .gain → s.gau.blockCount = 1024 → s.gau.settleRun ≤ 7 →
    s.gau.measurementCount ≤ 199 →
    let settled := s.gau.blockBlanked ≤ 512
      ∧ (gainError s.gau.blockEnergy (1024 - s.gau.blockBlanked)).natAbs ≤ 10
    (settled → s.gau.settleRun = 7 → ∃ t, exec .gainMeasurement s = .next t ∧ t.gau.acq = .symbol
        ∧ t.gau.noSignalRestarts = 0 ∧ t.gau.failedTrials = 0 ∧ t.gau.held = none ∧ t.gau.trialSamples = #[]
        ∧ t.wu.grid = none ∧ t.wu.paths = [])
    ∧ (¬(settled ∧ s.gau.settleRun = 7) → s.gau.measurementCount < 199 → ∃ t, exec .gainMeasurement s = .next t
        ∧ t.gau.acq = .gain ∧ t.gau.measurementCount = s.gau.measurementCount + 1
        ∧ (settled → t.gau.settleRun = s.gau.settleRun + 1) ∧ (¬settled → t.gau.settleRun = 0)
        ∧ t.gau.noSignalRestarts = s.gau.noSignalRestarts ∧ t.ib.history = s.ib.history)
    ∧ (¬(settled ∧ s.gau.settleRun = 7) → s.gau.measurementCount = 199 → ∃ t, exec .gainMeasurement s = .next t
        ∧ t.gau.acq = .gain ∧ t.gau.noSignalRestarts = min 255 (s.gau.noSignalRestarts + 1)
        ∧ t.gau.measurementCount = 0 ∧ t.gau.settleRun = 0 ∧ t.ib.history = [] ∧ t.ib.prediction = .unarmed
        ∧ t.gau.appliedDuty = s.gau.appliedDuty))
  ∧ (∀ s : State, running s → s.gau.acq = .track → s.gau.blockCount = 1024 → s.gau.blockBlanked ≤ 512 →
    let step := gainStep (gainError s.gau.blockEnergy (1024 - s.gau.blockBlanked))
    let pushes := (s.gau.appliedDuty = 0 ∧ 0 < step) ∨ (s.gau.appliedDuty = 1023 ∧ step < 0)
    (pushes → s.gau.clipRun = 63 → ∃ t, exec .gainMeasurement s = .next t ∧ t.gau.acq = .hold
        ∧ t.gau.causes.gainClipped = true ∧ t.gau.carried.gainClipped = false ∧ t.gau.clipRun = 0
        ∧ t.gau.holdCount = 0 ∧ t.pru.smoothed = 0)
    ∧ (pushes → s.gau.clipRun < 63 → ∃ t, exec .gainMeasurement s = .next t ∧ t.gau.acq = .track
        ∧ t.gau.clipRun = s.gau.clipRun + 1 ∧ t.gau.causes = s.gau.causes)
    ∧ (¬pushes → ∃ t, exec .gainMeasurement s = .next t ∧ t.gau.acq = .track ∧ t.gau.clipRun = 0))

/-- R9: of the candidates at or above the detect threshold the highest score is chosen, and among equal scores the earlier in
the order given; none is chosen exactly when none reaches the threshold. R8, R9: the candidates of a trial are all eight in the
fixed order, or the pinned one alone. R9, R11, R19, R20, R21, R48: a trial that ends with
a choice enters FRAME in SEARCH with the candidate held and the grid on its peak position; a failed one raises the failed-
trial count and begins the next, and the eighth counts a SYMBOL→GAIN fall and enters GAIN. -/
def Obligations.TrialEndTakesFirstBestScore : Prop :=
  (∀ (threshold : Nat) (scores : List TrialScore),
    (∀ t, chooseCandidate threshold scores = some t → ∃ before after, scores = before ++ t :: after
      ∧ threshold ≤ t.score ∧ (∀ x ∈ before, x.score < t.score ∨ x.score < threshold)
      ∧ (∀ x ∈ after, x.score ≤ t.score ∨ x.score < threshold))
    ∧ (chooseCandidate threshold scores = none ↔ ∀ x ∈ scores, x.score < threshold))
  ∧ (∀ s : State,
    (s.cfg.pinned = none → trialChoice s = chooseCandidate s.cfg.detectThreshold
      ([⟨.short, .quarter⟩, ⟨.short, .eighth⟩, ⟨.short, .sixteenth⟩, ⟨.short, .thirtySecond⟩, ⟨.long, .quarter⟩,
        ⟨.long, .eighth⟩, ⟨.long, .sixteenth⟩, ⟨.long, .thirtySecond⟩].map (trialScore s.freeCount s.gau.trialSamples)))
    ∧ ∀ c, s.cfg.pinned = some c →
      trialChoice s = chooseCandidate s.cfg.detectThreshold [trialScore s.freeCount s.gau.trialSamples c])
  ∧ (∀ s : State, running s → s.gau.acq = .symbol → s.gau.trialSamples.size = trialLength →
    (∀ c, trialChoice s = some c → ∃ t, exec .trialEnd s = .next t ∧ t.gau.acq = .frame
        ∧ t.gau.subState = .search ∧ t.gau.passCount = 0 ∧ t.gau.searchCount = 0 ∧ t.gau.candidate = none
        ∧ t.gau.held = some c.candidate
        ∧ t.wu.grid = some { peak := c.peak, period := symbolLength c.candidate,
                             position := 40960 % symbolLength c.candidate, taken := false }
        ∧ t.ib.blankedCount = 0 ∧ t.ib.firstBoundary = true)
    ∧ (trialChoice s = none → s.gau.failedTrials < 7 → ∃ t, exec .trialEnd s = .next t
        ∧ t = { s with freeCount := t.freeCount, gau := { s.gau with
                failedTrials := s.gau.failedTrials + 1, trialSamples := #[] } })
    ∧ (trialChoice s = none → s.gau.failedTrials = 7 → ∃ t, exec .trialEnd s = .next t ∧ t.gau.acq = .gain
        ∧ t.gau.fallsSymbol = min 255 (s.gau.fallsSymbol + 1) ∧ t.ib.history = [] ∧ t.gau.measurementCount = 0))

/-- R8: for every position p from 0 to 40960 − N − G the G samples from p are correlated with the G samples from p + N, and
the magnitudes are accumulated by p modulo N + G; the score is the highest accumulated value over the mean of all N + G, in
sixteenths, rounded down, at most 4095; the peak position is the lowest residue that has the highest value. That the mean
itself is not rounded first is the model's choice: assumption log 34. What a correlation is of two runs of samples is the
model's reading: assumption log 15. Where every accumulated value is 0 the rule states no score, and it is a free value of
that range: assumption log 3. R8, R56: in SYMBOL a trial takes each sample as it left the blanker, and in no other state does
it take any. -/
def Obligations.TrialScoresItsSamples : Prop :=
  (∀ (free : Nat) (x : Array Sample) (c : Candidate),
    let n := symbolLength c
    let correlated := fun p => (((List.range (guardLength c)).map fun i =>
      (x.getD (p + i) 0#12).toInt * (x.getD (p + usefulLength c + i) 0#12).toInt).sum).natAbs
    let value := fun r => (((List.range (40960 - n + 1)).filter fun p => decide (p % n = r)).map correlated).sum
    let total := ((List.range n).map value).sum
    let t := trialScore free x c
    t.candidate = c ∧ t.peak < n ∧ (∀ r < n, value r < value t.peak ∨ (value r = value t.peak ∧ t.peak ≤ r))
      ∧ (0 < total → t.score = min 4095 (16 * value t.peak * n / total))
      ∧ (total = 0 → t.score = min 4095 (Config.nullTrialScore free c)))
  ∧ (∀ (d : Sample) (s : State), running s → nothingDue s →
    ∃ t, exec (.sample d) s = .next t
      ∧ (s.gau.acq = .symbol → t.gau.trialSamples = s.gau.trialSamples.push t.ib.out)
      ∧ (s.gau.acq ≠ .symbol → t.gau.trialSamples = s.gau.trialSamples))

/-- R11, R12, R16, R19: the frame pass that ends SEARCH at 64 boundaries is counted, and the third counts a FRAME→SYMBOL fall
and enters SYMBOL; a hold limit reached counts a HOLD→SYMBOL fall and enters SYMBOL. -/
def Obligations.PassesAndHoldLimitFallBack : Prop :=
  ∀ s : State, running s →
    (s.gau.acq = .frame → s.gau.subState = .search → s.gau.searchCount = 64 → s.gau.passCount < 2 →
      exec .framePass s = .next { s with gau := { s.gau with searchCount := 0, passCount := s.gau.passCount + 1 } })
    ∧ (s.gau.acq = .frame → s.gau.subState = .search → s.gau.searchCount = 64 → s.gau.passCount = 2 →
      ∃ t, exec .framePass s = .next t ∧ t.gau.acq = .symbol ∧ t.gau.held = none ∧ t.wu.grid = none
        ∧ t.gau.fallsFrame = min 255 (s.gau.fallsFrame + 1) ∧ t.gau.fallsHold = s.gau.fallsHold)
    ∧ (s.gau.acq = .hold → s.gau.holdCount = s.cfg.holdLimit →
      ∃ t, exec .holdLimit s = .next t ∧ t.gau.acq = .symbol ∧ t.gau.held = none ∧ t.wu.grid = none
        ∧ t.wu.applied = 0 ∧ t.wu.paths = [] ∧ t.pru.errorRun = 0
        ∧ t.gau.fallsHold = min 255 (s.gau.fallsHold + 1) ∧ t.gau.fallsFrame = s.gau.fallsFrame)

/-- R10, R11, R23, R24: a sync-found report taken in SEARCH, after a frame pass still due has been counted, presets symbol
index and frame counter to 0, which makes the arrival stamp 0 at once, and enters CONFIRM with no candidate; a pass that was
the third enters SYMBOL with the report ignored, as in every other state. R11: the boundary that ends the 64 and the report
may come together, in either order (the operand; assumption log 10). R12, R19: in CONFIRM a report that does not agree counts
a pass: a different candidate becomes the candidate, an undecodable one leaves none, a missing sync word goes back to SEARCH;
the third pass enters SYMBOL. R12, R14, R16, R73: the frame check that agrees with the candidate enters TRACK with that
signalling and cleared tallies; in TRACK one that agrees, or is undecodable, clears the sync miss run, the first sync missing
raises it to 1, the second in a row records FRAME_LOST and enters HOLD, and changed signalling records SIGNALLING_CHANGED and
enters FRAME in CONFIRM; a departure from TRACK leaves the merit at 0. R16: in HOLD a sync word in place with unchanged or
undecodable signalling returns the station to TRACK with the current signalling unchanged, changed signalling goes the way it
does in TRACK, and sync missing changes nothing. -/
def Obligations.SignallingReportsMoveAcquisition : Prop :=
  (∀ (b : Bool) (s : State), running s → (b = true → boundaryDue s.wu = false) →
    let preset := { s.wu with symbolIndex := 0, frameCounter := 0, presetDue := boundaryDue s.wu }
    (s.gau.acq = .frame → s.gau.subState = .search → s.gau.searchCount < 64 → exec (.syncFound b) s = .next { s with
        wu := preset, gau := { s.gau with subState := .confirm, candidate := none } })
    ∧ (s.gau.acq = .frame → s.gau.subState = .search → s.gau.searchCount = 64 → s.gau.passCount < 2 →
      exec (.syncFound b) s = .next { s with
        wu := preset
        gau := { s.gau with
          subState := .confirm, candidate := none, searchCount := 0, passCount := s.gau.passCount + 1 } })
    ∧ (s.gau.acq = .frame → s.gau.subState = .search → s.gau.searchCount = 64 → s.gau.passCount = 2 →
      ∃ t, exec (.syncFound b) s = .next t ∧ t.gau.acq = .symbol ∧ t.wu.symbolIndex = s.wu.symbolIndex
        ∧ t.wu.frameCounter = s.wu.frameCounter ∧ t.gau.fallsFrame = min 255 (s.gau.fallsFrame + 1))
    ∧ (¬(s.gau.acq = .frame ∧ s.gau.subState = .search) → exec (.syncFound b) s = .next s))
  ∧ (∀ s : State, running s → s.gau.acq = .frame → s.gau.subState = .search → boundaryDue s.wu = true →
    s.gau.searchCount = 63 →
    (∀ t, exec (.symbolBoundary true) s = .next t → exec (.syncFound true) s = exec (.syncFound false) t)
    ∧ (s.gau.passCount < 2 → ∃ t, exec (.syncFound true) s = .next t ∧ t.gau.acq = .frame ∧ t.gau.subState = .confirm
        ∧ t.gau.passCount = s.gau.passCount + 1 ∧ t.gau.searchCount = 0 ∧ arrivalStamp t.wu = 0 ∧ t.wu.presetDue = false)
    ∧ (s.gau.passCount = 2 → ∃ t, exec (.syncFound true) s = .next t ∧ t.gau.acq = .symbol
        ∧ t.gau.fallsFrame = min 255 (s.gau.fallsFrame + 1))
    ∧ (∃ t, exec (.syncFound false) s = .next t ∧ t.gau.acq = .frame ∧ t.gau.subState = .confirm
        ∧ t.gau.passCount = s.gau.passCount ∧ arrivalStamp t.wu = 0 ∧ t.wu.presetDue = true))
  ∧ (∀ (r : FrameReport) (s : State), running s → s.gau.acq = .frame → s.gau.subState = .confirm →
    (r.syncPresent = true → r.signalling = none ∨ r.signalling ≠ s.gau.candidate) →
    (s.gau.passCount < 2 → attemptSettled s → exec (.frameCheck r) s = .next { s with gau :=
      if r.syncPresent then { s.gau with candidate := r.signalling, passCount := s.gau.passCount + 1 }
      else { s.gau with
        candidate := none, subState := .search, searchCount := 0, passCount := s.gau.passCount + 1 } })
    ∧ (s.gau.passCount = 2 → ∃ t, exec (.frameCheck r) s = .next t ∧ t.gau.acq = .symbol
        ∧ t.gau.fallsFrame = min 255 (s.gau.fallsFrame + 1) ∧ t.gau.held = none ∧ t.wu.grid = none))
  ∧ (∀ (g : Signalling) (s : State), running s →
    (s.gau.acq = .frame → s.gau.subState = .confirm → s.gau.candidate = some g →
      ∃ t, exec (.frameCheck ⟨true, some g⟩) s = .next t ∧ t.gau.acq = .track ∧ t.gau.current = some g
        ∧ t.pru.signalling = some g ∧ t.pru.tallies = .zero ∧ t.gau.syncMissRun = 0 ∧ t.gau.clipRun = 0)
    ∧ (s.gau.acq = .track → s.gau.current = some g → attemptSettled s →
      exec (.frameCheck ⟨true, some g⟩) s = .next { s with gau := { s.gau with syncMissRun := 0 } })
    ∧ (s.gau.acq = .track → attemptSettled s →
      exec (.frameCheck ⟨true, none⟩) s = .next { s with gau := { s.gau with syncMissRun := 0 } })
    ∧ (s.gau.acq = .track → s.gau.syncMissRun = 0 → attemptSettled s → ∀ r,
      exec (.frameCheck ⟨false, r⟩) s = .next { s with gau := { s.gau with syncMissRun := 1 } })
    ∧ (s.gau.acq = .track → s.gau.syncMissRun = 1 → ∀ r,
      ∃ t, exec (.frameCheck ⟨false, r⟩) s = .next t ∧ t.gau.acq = .hold ∧ t.gau.causes.frameLost = true
        ∧ t.gau.syncMissRun = 0 ∧ t.gau.holdCount = 0 ∧ t.pru.smoothed = 0 ∧ t.pru.fresh = true)
    ∧ (s.gau.acq = .track ∨ s.gau.acq = .hold → s.gau.current ≠ some g →
      ∃ t, exec (.frameCheck ⟨true, some g⟩) s = .next t ∧ t.gau.acq = .frame ∧ t.gau.subState = .confirm
        ∧ t.gau.candidate = some g ∧ t.gau.passCount = 0 ∧ t.gau.causes.signallingChanged = true
        ∧ t.gau.carried.signallingChanged = false
        ∧ t.gau.held = s.gau.held ∧ (s.gau.acq = .track → t.pru.smoothed = 0 ∧ t.pru.fresh = true)))
  ∧ (∀ (r : FrameReport) (s : State), running s → s.gau.acq = .hold →
    (r.syncPresent = true → (r.signalling = none ∨ r.signalling = s.gau.current) →
      ∃ t, exec (.frameCheck r) s = .next t ∧ t.gau.acq = .track ∧ t.gau.current = s.gau.current
        ∧ t.gau.syncMissRun = 0 ∧ t.pru.tallies = .zero ∧ t.gau.causes = s.gau.causes)
    ∧ (r.syncPresent = false → attemptSettled s → exec (.frameCheck r) s = .next s))

/-! ## Symbol timing, echo profile and window -/

/-- R21: a symbol boundary is due exactly while the next sample stands at a grid point, the peak position modulo N + G, and
has not been taken yet; each sample moves the position on by one, modulo N + G; away from a grid point SYMBOL_BOUNDARY changes
nothing, and a sample at one finds the boundary taken before it (assumption log 8). R22, R23: at a symbol boundary, whichever
of the window unit and the blanker acts first, the symbol index rises by 1 and passes from 63 to 0 with the frame counter,
which wraps after 65535; a boundary for which a preset has been made keeps its index and counter. R38, R39, R15: at a symbol
boundary taken first by the window unit in TRACK, a STEP is transferred; a JUMP is transferred at a frame boundary alone,
where it records WINDOW_JUMP and puts the station into HOLD. -/
def Obligations.BoundaryAdvancesAndTransfers : Prop :=
  (∀ wu : Window, boundaryDue wu = true ↔ ∃ g, wu.grid = some g ∧ g.position = g.peak ∧ g.taken = false)
  ∧ (∀ (n : Nat) (g : Grid), g.position < g.period →
    let later := Nat.iterate advanceGrid n g
    later.position = (g.position + n) % g.period ∧ later.period = g.period ∧ later.peak = g.peak
      ∧ (0 < n → later.taken = false))
  ∧ (∀ (b : Bool) (s : State), running s → boundaryDue s.wu = false → noCountDue s → attemptSettled s →
    exec (.symbolBoundary b) s = .next s)
  ∧ (∀ (d : Sample) (s : State), running s → s.gau.acq = .track → measurementDue s = false → boundaryDue s.wu = true →
    s.wu.presetDue = false → s.wu.symbolIndex ≤ 63 →
    ∃ t, exec (.sample d) s = .next t ∧ t.wu.symbolIndex = (s.wu.symbolIndex + 1) % 64)
  ∧ (∀ (b : Bool) (s : State), running s → noCountDue s → boundaryDue s.wu = true →
    s.wu.symbolIndex ≤ 63 → s.wu.frameCounter ≤ 65535 →
    ∃ t, exec (.symbolBoundary b) s = .next t ∧ t.wu.grid = s.wu.grid.map (fun g => { g with taken := true })
      ∧ t.wu.presetDue = false
      ∧ (s.wu.presetDue = true → t.wu.symbolIndex = s.wu.symbolIndex ∧ t.wu.frameCounter = s.wu.frameCounter)
      ∧ (s.wu.presetDue = false → t.wu.symbolIndex = (s.wu.symbolIndex + 1) % 64
        ∧ t.wu.frameCounter = (if s.wu.symbolIndex = 63 then (s.wu.frameCounter + 1) % 65536 else s.wu.frameCounter)))
  ∧ (∀ s : State, running s → s.gau.acq = .track → boundaryDue s.wu = true → s.wu.presetDue = false →
    (s.wu.mark = .step → ∃ t, exec (.symbolBoundary true) s = .next t
      ∧ t.wu.applied = s.wu.pendingPos ∧ t.wu.mark = .none)
    ∧ (s.wu.mark = .jump → s.wu.symbolIndex = 63 → ∃ t, exec (.symbolBoundary true) s = .next t
      ∧ t.wu.applied = s.wu.pendingPos ∧ t.wu.mark = .none ∧ t.gau.causes.windowJump = true ∧ t.gau.acq = .hold)
    ∧ (s.wu.mark = .jump → s.wu.symbolIndex < 63 → ∃ t, exec (.symbolBoundary true) s = .next t
      ∧ t.wu.applied = s.wu.applied ∧ t.wu.mark = .jump ∧ t.wu.pendingPos = s.wu.pendingPos))

/-- R48, R49, R50, R27: the symbol that ends is erased when its blanked count is greater than N × q; the blanked count returns
to 0, an erased symbol is reported to the window unit and raises the burst run, the eighth in a row records ERASURE_BURST and
returns the run to 0, and a clean one returns it to 0. R49, R64, R65: the verdict goes to the symbol slot. Beside a MER that
came ahead of the boundary it completes the symbol, which is tallied in TRACK as R65 says and dropped in any other state, one
that a jump taken first at this boundary has brought about included; that a completing symbol which is the eighth erased in a
row is counted, its completion taken before the report and the HOLD it brings within the step, is the model's reading of R65's
two orders (assumption log 18); without one the slot then holds the verdict alone. R48: the first boundary after a choice
judges nothing: the blanked count returns to 0 and nothing is erased, counted or handed on. -/
def Obligations.BoundaryJudgesSymbol : Prop :=
  ∀ (b : Bool) (c : Candidate) (s : State), running s → noCountDue s → boundaryDue s.wu = true →
    s.gau.held = some c →
    (s.ib.firstBoundary = false → s.ib.burstRun ≤ 7 →
      let limit := erasureLimit s.cfg.eraseFraction c
      let erased := decide (limit < s.ib.blankedCount)
      ∃ t, exec (.symbolBoundary b) s = .next t ∧ t.ib.blankedCount = 0
        ∧ (s.ib.blankedCount ≤ limit → t.ib.burstRun = 0 ∧ t.wu.erasedCount = s.wu.erasedCount)
        ∧ (limit < s.ib.blankedCount → t.wu.erasedCount = min 4 (s.wu.erasedCount + 1)
          ∧ (s.ib.burstRun < 7 → t.ib.burstRun = s.ib.burstRun + 1)
          ∧ (s.ib.burstRun = 7 → t.ib.burstRun = 0 ∧ t.gau.causes.erasureBurst = true ∧ t.gau.acq ≠ .track))
        ∧ (s.pru.slot.ahead = false ∨ s.pru.slot.mer = none →
          t.pru.slot = { mer := none, verdict := some erased, ahead := false } ∧ t.pru.tallies = s.pru.tallies)
        ∧ (∀ m, s.pru.slot.ahead = true → s.pru.slot.mer = some m → t.pru.slot = .empty
          ∧ (s.gau.acq ≠ .track → t.pru.tallies = s.pru.tallies)
          ∧ (s.gau.acq = .track → b = true → s.wu.mark = .jump → s.wu.presetDue = false → s.wu.symbolIndex = 63 →
            t.pru.tallies = s.pru.tallies)
          ∧ (s.gau.acq = .track → b = false ∨ s.wu.mark ≠ .jump → t.pru.tallies = { s.pru.tallies with
              allSymbols := min 65535 (s.pru.tallies.allSymbols + 1)
              erasedSymbols := if erased then min 65535 (s.pru.tallies.erasedSymbols + 1) else s.pru.tallies.erasedSymbols
              cleanSymbols := if erased then s.pru.tallies.cleanSymbols else min 65535 (s.pru.tallies.cleanSymbols + 1)
              merSum := if erased then s.pru.tallies.merSum else min 26214000 (s.pru.tallies.merSum + m) })))
    ∧ (s.ib.firstBoundary = true →
      ∃ t, exec (.symbolBoundary b) s = .next t ∧ t.ib = { s.ib with blankedCount := 0, firstBoundary := false }
        ∧ t.wu.erasedCount = s.wu.erasedCount ∧ t.gau.causes.erasureBurst = s.gau.causes.erasureBurst
        ∧ t.pru.tallies = s.pru.tallies ∧ t.pru.slot.verdict = (if s.pru.slot.ahead then s.pru.slot.verdict else none)
        ∧ t.pru.slot.mer = (if s.pru.slot.ahead then s.pru.slot.mer else none) ∧ t.pru.slot.ahead = false)

/-- R26: a profile update in any state but TRACK and HOLD is ignored. R26, R27: in those, one that arrives with two or more
erased symbols counted is set aside and clears the count; one that is taken clears the count too, and leaves the path list
merged with the peaks at or above the threshold and in range, and the window placed. The merge, in any sound list: R28, R29: a
matched entry takes the peak's delay, (3p + q)/4 of the powers, CONFIRMED and age 0; R30: one it then stands within 4 ES of is
merged with it, powers added up to 65535, the delay that of the higher power, the earlier on equal power; R31: a peak that
matches none is inserted as NEW in delay order; R32: in a full list it takes the place of the weakest NEW or FADING entry
below it in power, and is discarded when there is none; R28, R31: of two peaks with one match, and of two unmatched within 4
ES, only the stronger, or the earlier of equals, counts; R33: every entry not seen ages: a NEW one leaves, a CONFIRMED one is
FADING at age 1, a FADING one leaves at age 8. -/
def Obligations.ProfileUpdateTakenOrSetAside : Prop :=
  (∀ (peaks : List Peak) (s : State), running s → s.gau.acq ≠ .track → s.gau.acq ≠ .hold →
    exec (.profileUpdate peaks) s = .next s)
  ∧ (∀ (peaks : List Peak) (c : Candidate) (s : State), running s → (s.gau.acq = .track ∨ s.gau.acq = .hold) →
    s.gau.held = some c →
    (2 ≤ s.wu.erasedCount → exec (.profileUpdate peaks) s = .next { s with wu := { s.wu with erasedCount := 0 } })
    ∧ (s.wu.erasedCount ≤ 1 → ∃ t, exec (.profileUpdate peaks) s = .next t ∧ t = { s with wu := t.wu }
      ∧ t.wu.erasedCount = 0
      ∧ t.wu.paths = mergeUpdate (peaks.filter fun p =>
          decide (s.cfg.peakThreshold ≤ p.power.val ∧ -2048 ≤ p.delay ∧ p.delay ≤ 6143)) s.wu.paths
      ∧ t.wu.applied = s.wu.applied ∧ t.wu.grid = s.wu.grid
      ∧ (∀ w, windowTarget (guardLength c) t.wu.paths = some w →
          (2 * (w - s.wu.applied).natAbs ≤ guardLength c → t.wu.mark = .step
            ∧ t.wu.pendingPos = max (s.wu.applied - s.cfg.slew) (min (s.wu.applied + s.cfg.slew) w))
          ∧ (guardLength c < 2 * (w - s.wu.applied).natAbs → t.wu.mark = .jump ∧ t.wu.pendingPos = w))
      ∧ (windowTarget (guardLength c) t.wu.paths = none → t.wu.pendingPos = s.wu.pendingPos ∧ t.wu.mark = s.wu.mark)))
  ∧ (∀ paths : List Path, pathsSound paths →
    mergeUpdate [] paths = paths.flatMap unseenEntry
    ∧ ∀ p : Peak,
      (∀ before e after, paths = before ++ e :: after → (e.delay - p.delay).natAbs ≤ 4 →
        apart p.delay before → apart p.delay after →
        mergeUpdate [p] paths = before.flatMap unseenEntry
          ++ { delay := p.delay, power := (3 * e.power + p.power.val) / 4, state := .confirmed, age := 0 }
            :: after.flatMap unseenEntry)
      ∧ (∀ before a b after, paths = before ++ a :: b :: after → (a.delay - p.delay).natAbs ≤ 4 →
        (b.delay - p.delay).natAbs ≤ 4 →
        let first := (a.delay - p.delay).natAbs ≤ (b.delay - p.delay).natAbs
        let pa := if first then (3 * a.power + p.power.val) / 4 else a.power
        let pb := if first then b.power else (3 * b.power + p.power.val) / 4
        mergeUpdate [p] paths = before.flatMap unseenEntry
          ++ { delay := if first then (if pa < pb then b.delay else p.delay) else (if pa < pb then p.delay else a.delay)
               power := min 65535 (pa + pb), state := .confirmed, age := 0 } :: after.flatMap unseenEntry)
      ∧ (∀ before after, paths = before ++ after → paths.length < 8 → apart p.delay paths →
        (∀ x ∈ before, x.delay < p.delay) → (∀ x ∈ after, p.delay < x.delay) →
        mergeUpdate [p] paths = before.flatMap unseenEntry
          ++ { delay := p.delay, power := p.power.val, state := .new, age := 0 } :: after.flatMap unseenEntry)
      ∧ (∀ before e after, paths = before ++ e :: after → paths.length = 8 → apart p.delay paths →
        e.state ≠ .confirmed → e.power < p.power.val →
        (∀ x ∈ before, x.state ≠ .confirmed → e.power < x.power) → (∀ x ∈ after, x.state ≠ .confirmed → e.power ≤ x.power) →
        mergeUpdate [p] paths = mergeUpdate [p] (before ++ after))
      ∧ (paths.length = 8 → apart p.delay paths → (∀ x ∈ paths, x.state ≠ .confirmed → p.power.val ≤ x.power) →
        mergeUpdate [p] paths = paths.flatMap unseenEntry)
      ∧ (∀ q : Peak, (q.power.val < p.power.val ∨ (q.power = p.power ∧ p.delay < q.delay)) →
        ((∃ before e after, paths = before ++ e :: after ∧ (e.delay - p.delay).natAbs ≤ 4
            ∧ (e.delay - q.delay).natAbs ≤ 4 ∧ apart p.delay (before ++ after) ∧ apart q.delay (before ++ after))
          ∨ ((p.delay - q.delay).natAbs ≤ 4 ∧ apart p.delay paths ∧ apart q.delay paths)) →
        mergeUpdate [p, q] paths = mergeUpdate [p] paths ∧ mergeUpdate [q, p] paths = mergeUpdate [p] paths))

/-- R35: the spill of a candidate is the sum, over the participating paths that are not clean for it, of each path's power in
proportion to its distance outside up to 64 ES, each term rounded down on its own; a path 64 ES or more outside spills its
whole power; with at most 8 participating paths of power at most 65535 the spill lies in 0..524280. The participating paths are
the CONFIRMED and FADING entries (R34). -/
def Obligations.SpillSumsPathsOutside : Prop :=
  ∀ (g : Nat) (paths : List Path) (w : Int),
    let taking := paths.filter fun p => decide (p.state = .confirmed ∨ p.state = .fading)
    let outside := taking.filter fun p => decide (¬(w - g ≤ p.delay ∧ p.delay ≤ w))
    spill g paths w = (outside.map fun p =>
      p.power * min (if w < p.delay then (p.delay - w).toNat else (w - g - p.delay).toNat) 64 / 64).sum
    ∧ (∀ p ∈ outside, 64 ≤ distanceOutside g w p.delay → p.power * min (distanceOutside g w p.delay) 64 / 64 = p.power)
    ∧ (taking.length ≤ 8 → (∀ p ∈ taking, p.power ≤ 65535) → spill g paths w ≤ 524280)

/-- R34: the participating paths are the entries of the path list, in their order, that are CONFIRMED or FADING; a NEW one
takes no part. R34, R36: the target is a candidate, a participating path's delay or its delay plus G, of least spill, and of
equal spills the smallest; there is none exactly when no path participates. -/
def Obligations.TargetHasLeastSpill : Prop :=
  ∀ (g : Nat) (paths : List Path),
    let taking := paths.filter fun p => decide (p.state = .confirmed ∨ p.state = .fading)
    participating paths = taking
    ∧ (∀ w, windowTarget g paths = some w →
      (∃ p ∈ taking, w = p.delay ∨ w = p.delay + g)
      ∧ ∀ p ∈ taking, ∀ v, v = p.delay ∨ v = p.delay + g →
          spill g paths w < spill g paths v ∨ (spill g paths w = spill g paths v ∧ w ≤ v))
    ∧ (windowTarget g paths = none ↔ ∀ p ∈ paths, p.state = .new)

/-! ## Packet recovery and merit -/

/-- R64, R65: the MER of the symbol whose verdict the slot holds completes the symbol: in TRACK an erased one is counted
without its MER and a clean one with it, in any other state it is dropped; with no verdict yet the MER waits in the slot. A
value is delivered within 0..400. R64: the MER of a boundary still to be taken empties the slot of a half-filled symbol and
waits for that boundary, or is taken after it (the operand; assumption log 10). -/
def Obligations.MerCompletesSymbol : Prop :=
  ∀ (mer : Int) (b : Bool) (s : State), running s → s.wu.grid.isSome = true →
    let m := (max 0 (min 400 mer)).toNat
    (boundaryDue s.wu = true → b = false → exec (.merMeasurement mer b) s =
      .next { s with pru := { s.pru with slot := { mer := some m, verdict := none, ahead := true } } })
    ∧ (boundaryDue s.wu = true → b = true → ∀ t, exec (.symbolBoundary true) s = .next t →
      exec (.merMeasurement mer b) s = exec (.merMeasurement mer false) t)
    ∧ (boundaryDue s.wu = false → s.pru.slot.verdict = none → exec (.merMeasurement mer b) s =
      .next { s with pru := { s.pru with slot := { mer := some m, verdict := none, ahead := false } } })
    ∧ (boundaryDue s.wu = false → ∀ erased, s.pru.slot.verdict = some erased →
      ∃ t, exec (.merMeasurement mer b) s = .next t
      ∧ t = { s with pru := { s.pru with slot := .empty, tallies := t.pru.tallies } }
      ∧ (s.gau.acq ≠ .track → t.pru.tallies = s.pru.tallies)
      ∧ (s.gau.acq = .track → t.pru.tallies.allSymbols = min 65535 (s.pru.tallies.allSymbols + 1)
        ∧ t.pru.tallies.allPackets = s.pru.tallies.allPackets
        ∧ (erased = true → t.pru.tallies.erasedSymbols = min 65535 (s.pru.tallies.erasedSymbols + 1)
          ∧ t.pru.tallies.merSum = s.pru.tallies.merSum ∧ t.pru.tallies.cleanSymbols = s.pru.tallies.cleanSymbols)
        ∧ (erased = false → t.pru.tallies.merSum = min 26214000 (s.pru.tallies.merSum + m)
          ∧ t.pru.tallies.cleanSymbols = min 65535 (s.pru.tallies.cleanSymbols + 1)
          ∧ t.pru.tallies.erasedSymbols = s.pru.tallies.erasedSymbols)))

/-- R70: the packet penalty is 4000 × e / n rounded down and capped at 400, and 400 when n is 0; the symbol penalty is 1000 × s
/ y rounded down and capped at 200, and 200 when y is 0; a penalty is 0 exactly while fewer than one packet in 4000 is
errored, or fewer than one symbol in 1000 is erased, with some taken. -/
def Obligations.PenaltiesFollowErroredShares : Prop :=
  ∀ t : Tallies,
    (t.allPackets = 0 → packetPenalty t = 400)
    ∧ (0 < t.allPackets → packetPenalty t = min 400 (4000 * t.erroredPackets / t.allPackets))
    ∧ (t.allSymbols = 0 → symbolPenalty t = 200 ∧ (t.cleanSymbols = 0 → meanMer t = 0))
    ∧ (0 < t.allSymbols → symbolPenalty t = min 200 (1000 * t.erasedSymbols / t.allSymbols))
    ∧ (packetPenalty t < 1 ↔ 4000 * t.erroredPackets < t.allPackets)
    ∧ (symbolPenalty t < 1 ↔ 1000 * t.erasedSymbols < t.allSymbols)

/-- R68: the required MER of each signalling. R69, R71: the mean MER is the MER sum over the clean symbols, rounded down, and 0
when there are none; the base is twice the margin, clamped to −100..300, above −100; a period with packets and symbols, none
errored and none erased, gives the base and 200; one with an errored packet, an erased symbol or no packet gives the base less
the two penalties, at least 0. For a period with packets, none errored, and no symbol at all R71's words, which the model
follows, add the 200 and the section's table does not: assumption log 29. So the raw merit never passes 1000; a clean period at
full margin gives exactly 1000; a period in which every symbol taken was erased gives 0, whatever the signalling; one with an
errored packet or an erased symbol stays at or below 800. -/
def Obligations.RawMeritStaysInRange : Prop :=
  ([CodeRate.rate1_2, .rate2_3, .rate3_4, .rate5_6, .rate7_8].map (fun r => requiredMer ⟨.point4, r⟩) = [31, 49, 59, 69, 75]
    ∧ [CodeRate.rate1_2, .rate2_3, .rate3_4, .rate5_6, .rate7_8].map (fun r => requiredMer ⟨.point16, r⟩)
      = [88, 111, 125, 136, 142]
    ∧ [CodeRate.rate1_2, .rate2_3, .rate3_4, .rate5_6, .rate7_8].map (fun r => requiredMer ⟨.point64, r⟩)
      = [140, 167, 182, 195, 203])
  ∧ ∀ (t : Tallies) (g : Signalling),
    let raw := rawMerit t (requiredMer g)
    let base := 2 * (max (-100) (min 300 ((meanMer t : Int) - requiredMer g)) + 100)
    (0 < t.cleanSymbols → meanMer t = t.merSum / t.cleanSymbols) ∧ (t.cleanSymbols = 0 → meanMer t = 0)
    ∧ (t.erroredPackets = 0 → t.erasedSymbols = 0 → 0 < t.allPackets → 0 < t.allSymbols → (raw : Int) = base + 200)
    ∧ (0 < t.erroredPackets ∨ 0 < t.erasedSymbols ∨ t.allPackets = 0 →
        (raw : Int) = max 0 (base - packetPenalty t - symbolPenalty t))
    ∧ (t.erroredPackets = 0 → t.erasedSymbols = 0 → 0 < t.allPackets → t.allSymbols = 0 →
        (raw : Int) = max 0 (base - 200) + 200)
    ∧ raw ≤ 1000
    ∧ (t.erroredPackets = 0 → t.erasedSymbols = 0 → 0 < t.allPackets → 0 < t.allSymbols →
        requiredMer g + 300 ≤ meanMer t → raw = 1000)
    ∧ (t.cleanSymbols = 0 → 0 < t.allSymbols → t.erasedSymbols = t.allSymbols → raw = 0)
    ∧ (0 < t.erroredPackets ∨ 0 < t.erasedSymbols → raw ≤ 800)

/-- R57, R61, R63, R15: in HOLD a decoded packet is withheld: it moves the error run alone, and the 64th errored packet in a
row records ERROR_BURST without restarting the hold; below HOLD it is discarded without a trace. The spec bounds nowhere how
long the report may be on its way to the GAU: that it is taken within the step, or waits until after the next command, is the
model's choice (assumption log 28). -/
def Obligations.PacketsOutsideTrackAreWithheld : Prop :=
  ∀ (p : Packet) (r : PacketReport) (s : State), running s → attemptSettled s →
    (s.gau.acq = .hold → (r.uncorrectable = true ∨ p[1].msb = true) → s.pru.errorRun < 63 → exec (.packetDecoded p r) s =
      .next { s with pru := { s.pru with errorRun := s.pru.errorRun + 1 } })
    ∧ (s.gau.acq = .hold → r.uncorrectable = false → p[1].msb = false → exec (.packetDecoded p r) s =
      .next { s with pru := { s.pru with errorRun := 0 } })
    ∧ (s.gau.acq = .hold → (r.uncorrectable = true ∨ p[1].msb = true) → s.pru.errorRun = 63 →
      (r.reportLater = false → exec (.packetDecoded p r) s = .next { s with
        pru := { s.pru with errorRun := 0 }
        gau := { s.gau with
          causes := { s.gau.causes with errorBurst := true }, carried := { s.gau.carried with errorBurst := false } } })
      ∧ (r.reportLater = true → exec (.packetDecoded p r) s = .next { s with
        pru := { s.pru with errorRun := 0 }, waiting := { record := none, burst := true } }))
    ∧ (s.gau.acq ≠ .track → s.gau.acq ≠ .hold → exec (.packetDecoded p r) s = .next s)

/-- R66, R77, R78, R81, R103: in TRACK every packet is tallied, an errored one as such; a stuffing packet and an identifier no
entry covers end uncounted and set no mark; a packet whose covering entry is SUSPENDED is dropped and counted in the entry's
class, sets no mark and reaches no queue and no store. R57 to R60, R79, R80, R82: one whose covering entry is ACTIVE sets
that entry's this-period mark and goes to the hold-back unit as a record with the entry's class, the output identifier its mode
forms, the errored flag, the CRC-16 of the bytes as decoded and the arrival stamp. R61, R62: an errored packet raises the error
run and any other returns it to 0; the 64th errored in a row is handed on and then records ERROR_BURST and enters HOLD. Stated
for packets whose record is taken at once (assumption log 28). -/
def Obligations.LookupEndsOrRoutesPackets : Prop :=
  ∀ (p : Packet) (r : PacketReport) (s : State), running s → s.gau.acq = .track → r.recordLater = false →
    attemptSettled s →
    let errored := r.uncorrectable || p[1].msb
    let tallies := { s.pru.tallies with
      allPackets := min 65535 (s.pru.tallies.allPackets + 1),
      erroredPackets := if errored then min 65535 (s.pru.tallies.erroredPackets + 1) else s.pru.tallies.erroredPackets }
    let tallied := { s.pru with errorRun := if errored then s.pru.errorRun + 1 else 0, tallies := tallies }
    let record := fun e : ServiceEntry => ({
      signature := crc16 p.toList, outId := outputIdentifier e (packetIdentifier p), cls := e.cls, errored := errored,
      stamp := s.wu.frameCounter * 64 + s.wu.symbolIndex, bytes := p } : RingEntry)
    ((errored = true → s.pru.errorRun < 63) →
      (packetIdentifier p = 8191 ∨ s.services.find? (covers (packetIdentifier p)) = none →
        exec (.packetDecoded p r) s = .next { s with pru := tallied })
      ∧ (∀ e hold, packetIdentifier p ≠ 8191 → s.services.find? (covers (packetIdentifier p)) = some e →
        e.suspension = .suspended hold → ∃ t, exec (.packetDecoded p r) s = .next t
          ∧ t = { s with pru := tallied, ri := t.ri }
          ∧ t.ri.premium = s.ri.premium ∧ t.ri.standard = s.ri.standard ∧ t.ri.spare = s.ri.spare
          ∧ ∀ c, (dropsOf c t.ri).count =
              (if c = e.cls then min 255 ((dropsOf c s.ri).count + 1) else (dropsOf c s.ri).count))
      ∧ (∀ before e after, packetIdentifier p ≠ 8191 → s.services = before ++ e :: after →
        (∀ x ∈ before, covers (packetIdentifier p) x = false) → covers (packetIdentifier p) e = true →
        e.suspension = .active →
        exec (.packetDecoded p r) s = .next (attempt (takeRecord (record e)
          { s with pru := tallied, services := before ++ { e with thisPeriod := true } :: after }))))
    ∧ (errored = true → s.pru.errorRun = 63 → r.reportLater = false →
      ∃ t, exec (.packetDecoded p r) s = .next t ∧ t.gau.acq = .hold ∧ t.gau.holdCount = 0
        ∧ t.gau.causes.errorBurst = true ∧ t.gau.carried.errorBurst = false ∧ t.pru.errorRun = 0 ∧ t.pru.smoothed = 0
        ∧ t.pru.fresh = true ∧ t.pru.tallies = tallies
        ∧ (s.ou.role = .standby → ∀ before e after, packetIdentifier p ≠ 8191 → s.services = before ++ e :: after →
          (∀ x ∈ before, covers (packetIdentifier p) x = false) → covers (packetIdentifier p) e = true →
          e.suspension = .active →
          t.hbu = (takeRecord (record e) s).hbu ∧ t.services = before ++ { e with thisPeriod := true } :: after))

/-- R140, R141, R146, R147: in STANDBY and TAKING, with the lead list empty, a decoded record joins the newest end of the ring
after the entries 1024 symbols old or more have left and, of a full ring, the oldest; with lead signatures held, an errored
record changes nothing, a clean one takes the oldest equal signature and every older one off the lead list, and one that
matches none empties it and joins the ring. R152, R153: in CATCH_UP each record counts; an errored one does no more, one that
matches takes its part off the lead list, and the last one makes the phase LIVE. R155, R156: in DRAIN a record joins the ring
and up to two of its oldest entries are offered, here both admitted. R80, R148: in ABSENT and YIELDING a record changes
nothing and is counted nowhere. -/
def Obligations.RecordsMoveRingAndLead : Prop :=
  (∀ (r : RingEntry) (s : State), (s.ou.role = .standby ∨ s.ou.role = .taking) → storesSound s.hbu →
    let kept := s.hbu.ring.dropWhile fun e => decide (1024 ≤ (r.stamp + 4194304 - e.stamp) % 4194304)
    (s.hbu.lead = [] → takeRecord r s =
      { s with hbu := { s.hbu with ring := kept.drop (kept.length - 127) ++ [r] } })
    ∧ (s.hbu.lead ≠ [] → r.errored = true → takeRecord r s = s)
    ∧ (∀ old rest, s.hbu.lead = old ++ r.signature :: rest → r.signature ∉ old → r.errored = false →
      takeRecord r s = { s with hbu := { s.hbu with lead := rest } })
    ∧ (s.hbu.lead ≠ [] → r.signature ∉ s.hbu.lead → r.errored = false →
      takeRecord r s = { s with hbu := { s.hbu with ring := [r], lead := [] } }))
  ∧ (∀ (r : RingEntry) (s : State), s.ou.role = .owner → s.hbu.phase = .catchUp →
    s.hbu.catchUpCount + 1 < s.cfg.catchUpLimit →
    (r.errored = true → takeRecord r s = { s with hbu := { s.hbu with catchUpCount := s.hbu.catchUpCount + 1 } })
    ∧ (∀ old rest, s.hbu.lead = old ++ r.signature :: rest → r.signature ∉ old → r.errored = false →
      (rest ≠ [] → takeRecord r s =
        { s with hbu := { s.hbu with catchUpCount := s.hbu.catchUpCount + 1, lead := rest } })
      ∧ (rest = [] → takeRecord r s = { s with iu := (takeRecord r s).iu, hbu := { s.hbu with
            catchUpCount := s.hbu.catchUpCount + 1, lead := [], phase := .live } })))
  ∧ (∀ (r a b : RingEntry) (rest : List RingEntry) (s : State), s.ou.role = .owner → s.hbu.phase = .drain →
    s.hbu.ring = a :: b :: rest → s.hbu.ring.length ≤ 127 →
    (r.stamp + 4194304 - a.stamp) % 4194304 < 1024 → a.cls = .premium → b.cls = .premium → s.ri.premium.length ≤ 6 →
    let t := takeRecord r s
    t.hbu = { s.hbu with ring := rest ++ [r] } ∧ t.ou = s.ou ∧ t.sau.offered = min 65535 (s.sau.offered + 2)
      ∧ t.ri = { s.ri with premium := s.ri.premium ++ [queueEntry a, queueEntry b] })
  ∧ (∀ (r : RingEntry) (s : State), s.ou.role = .absent ∨ s.ou.role = .yielding → takeRecord r s = s)

/-- R152, R153: in CATCH_UP a clean record that matches no lead signature, and any record that raises the catch-up count to
its limit, errored or matching ones included, is a handover gap: the lead list is emptied, the phase becomes LIVE and the
record is taken as LIVE takes it. R155 to R157, R173: a drain offer, as at the completion of a PAYLOAD in DRAIN, takes up to
two entries from the oldest end; one that fails its credit test is dropped and counted and one that passes into a queue with
room is admitted, as in LIVE; one that passes and finds its queue full stays and ends the offer; an offer that empties the
ring makes the phase LIVE. R140: in DRAIN each entry that expires at a record, and the one that a full ring then loses, is
counted in the drop count of its class. Two things are the model's: that the share and admission unit takes a record handed on
in the same step (assumption log 28), and that a record whose expiry empties the ring is handed on in LIVE (assumption log
13). -/
def Obligations.DrainOffersAndHandoverGaps : Prop :=
  let asLive := fun (r : RingEntry) (s : State) => takeRecord r { s with hbu := { s.hbu with phase := .live } }
  let full := fun (e : RingEntry) (s : State) =>
    passesTest e.cls s ∧ queueCapacity e.cls ≤ (queueOf e.cls s.ri).length
  let leaves := fun (e : RingEntry) (rest : List RingEntry) (s : State) =>
    { s with ri := (asLive e s).ri, sau := (asLive e s).sau, hbu := { s.hbu with ring := rest } }
  (∀ (r : RingEntry) (s : State), s.ou.role = .owner → s.hbu.phase = .catchUp →
    (s.cfg.catchUpLimit ≤ s.hbu.catchUpCount + 1 ∨ (r.errored = false ∧ r.signature ∉ s.hbu.lead)) →
    let t := takeRecord r s
    t.iu.pattern = basePattern t
      ∧ t = { s with
          ri := (asLive r s).ri, sau := (asLive r s).sau, iu := t.iu
          hbu := { s.hbu with lead := [], phase := .live, catchUpCount := s.hbu.catchUpCount + 1 } })
  ∧ (∀ (e : RingEntry) (s : State), s.ou.role = .owner → s.hbu.phase = .drain →
    (∀ rest, s.hbu.ring = e :: rest → full e s → drainOffer s = s)
    ∧ (s.hbu.ring = [e] → ¬full e s → ∃ iu, drainOffer s = { leaves e [] s with
        iu := iu, hbu := { s.hbu with ring := [], phase := .live } })
    ∧ (∀ f rest, s.hbu.ring = e :: f :: rest → ¬full e s →
      let u := leaves e (f :: rest) s
      (full f u → drainOffer s = u)
      ∧ (¬full f u → rest ≠ [] → drainOffer s = leaves f rest u)
      ∧ (¬full f u → rest = [] → ∃ iu, drainOffer s = { leaves f [] u with
          iu := iu, hbu := { s.hbu with ring := [], phase := .live } })))
  ∧ (∀ (r : RingEntry) (s : State), s.ou.role = .owner → s.hbu.phase = .drain → s.hbu.ring.length ≤ 128 →
    let old := fun e : RingEntry => decide (1024 ≤ (r.stamp + 4194304 - e.stamp) % 4194304)
    let kept := s.hbu.ring.dropWhile old
    let lost := s.hbu.ring.takeWhile old ++ kept.take (kept.length - 127)
    ∃ ri : Riser,
      { ri with
          dropsPremium := s.ri.dropsPremium, dropsStandard := s.ri.dropsStandard, dropsSpare := s.ri.dropsSpare } = s.ri
      ∧ (∀ c, let n := lost.countP fun e => decide (e.cls = c)
          (n = 0 → dropsOf c ri = dropsOf c s.ri)
          ∧ (0 < n → dropsOf c ri = { dropsOf c s.ri with count := min 255 ((dropsOf c s.ri).count + n) }))
      ∧ (kept ≠ [] → takeRecord r s = drainOffer { s with
          ri := ri, hbu := { s.hbu with ring := kept.drop (kept.length - 127) ++ [r] } })
      ∧ (kept = [] →
        let u := { s with ri := ri, hbu := { s.hbu with ring := [] } }
        ∃ iu, takeRecord r s = { u with
          ri := (asLive r u).ri, sau := (asLive r u).sau, iu := iu, hbu := { u.hbu with phase := .live } }))
  ∧ (∀ (h : PayloadHeader) (p : Packet) (s : State), running s → s.ri.tx = .transmitting (.payload h p) →
    s.ou.role = .owner → s.hbu.phase = .drain →
    exec .frameSent s = .next (drainOffer { s with ri := { s.ri with tx := .silent, lastSent := some h.signature } }))

/-- R78 to R80, R161, R171 to R173: an owner in LIVE tests a forwardable packet for credit by its class. PREMIUM always passes,
STANDARD at a credit of 100, SPARE at 100 + 50 × burst; one that passes joins the tail of its class queue when that has
room, for 100 of credit, held at the bottom by an overdraft; one that fails, or finds its queue full, is dropped for no
credit and counted in its class; each is counted as offered. -/
def Obligations.OwnerAdmitsByCredit : Prop :=
  ∀ (r : RingEntry) (s : State), s.ou.role = .owner → s.hbu.phase = .live →
    let passes := r.cls = .premium ∨ (r.cls = .standard ∧ 100 ≤ s.sau.credit)
      ∨ (r.cls = .spare ∧ 100 + 50 * (s.cfg.burst : Int) ≤ s.sau.credit)
    let t := takeRecord r s
    t.sau.offered = min 65535 (s.sau.offered + 1) ∧ t.hbu = s.hbu ∧ t.ou = s.ou ∧ t.services = s.services
      ∧ (passes ∧ (queueOf r.cls s.ri).length < queueCapacity r.cls →
          queueOf r.cls t.ri = queueOf r.cls s.ri ++ [queueEntry r]
          ∧ t.sau.credit = max (-(100 * (s.cfg.burst : Int))) (s.sau.credit - 100)
          ∧ t.ri = withQueue r.cls (queueOf r.cls s.ri ++ [queueEntry r]) s.ri)
      ∧ (¬(passes ∧ (queueOf r.cls s.ri).length < queueCapacity r.cls) →
          t.sau.credit = s.sau.credit ∧ queueOf r.cls t.ri = queueOf r.cls s.ri
          ∧ (dropsOf r.cls t.ri).count = min 255 ((dropsOf r.cls s.ri).count + 1)
          ∧ ∀ c, c ≠ r.cls → dropsOf c t.ri = dropsOf c s.ri ∧ queueOf c t.ri = queueOf c s.ri)

/-- What a packet's event left on its way is taken after the next command, and before the next packet (assumption log 28). R62,
R63: a report of ERROR_BURST may be taken after the packet that follows the 64th errored one, which is then still taken in
TRACK. R80, R148: the record goes by the role and phase its receiver then finds. R170, R175: a record on its way to the share
and admission unit that finds the role no longer OWNER is dropped in its class and not counted as offered; at a departure the
two orders give equal drop counts, and only the admission taken first counts an offer; with an admission tick between, the
credit tested is the raised one. -/
def Obligations.WaitingPartsAreTaken : Prop :=
  (∀ (c : Instr) (s t : State), s.resetLow = false → c ≠ .reset → (∀ straps, c ≠ .resetEnd straps) →
    (∀ p r, c ≠ .packetDecoded p r) → exec c s = .next t → t.waiting = nothingWaits)
  ∧ (∀ (p : Packet) (r : PacketReport) (route : Route) (e : RingEntry) (s : State), s.resetLow = false →
    s.waiting.record = some (route, e) →
    exec (.packetDecoded p r) s
      = exec (.packetDecoded p r) (deliver route e { s with waiting := { s.waiting with record := none } }))
  ∧ (∀ (p q : Packet) (r : PacketReport) (s : State), running s → s.gau.acq = .track → s.pru.errorRun = 63 →
    (r.uncorrectable = true ∨ p[1].msb = true) → r.recordLater = false →
    ∃ a t, exec (.packetDecoded p r) s = .next a
      ∧ exec (.packetDecoded q { uncorrectable := false, recordLater := false, reportLater := false }) a = .next t
      ∧ t.gau.acq = .hold ∧ t.gau.causes.errorBurst = true
      ∧ (r.reportLater = true → a.gau.acq = .track ∧ a.waiting = { record := none, burst := true }
        ∧ t.pru.tallies.allPackets = min 65535 (s.pru.tallies.allPackets + 2))
      ∧ (r.reportLater = false → a.gau.acq = .hold ∧ a.waiting = nothingWaits
        ∧ t.pru.tallies.allPackets = min 65535 (s.pru.tallies.allPackets + 1)))
  ∧ (∀ (e : RingEntry) (s : State), s.resetLow = false → s.ou.role ≠ .owner →
    s.waiting = { record := some (.admission, e), burst := false } →
    ∃ t, exec .outputPeriodEnd s = .next t ∧ t.sau = s.sau ∧ t.ou = s.ou ∧ t.hbu = s.hbu
      ∧ ∀ c, queueOf c t.ri = queueOf c s.ri
        ∧ (dropsOf c t.ri).count = (if c = e.cls then min 255 ((dropsOf c s.ri).count + 1) else (dropsOf c s.ri).count))
  ∧ (∀ (p : Packet) (s a b x y : State) (i : Nat) (e : ServiceEntry), running s → s.gau.acq = .track →
    s.ou.role = .owner → s.hbu.phase = .live → s.silence = false → packetIdentifier p ≠ 8191 → p[1].msb = false →
    s.services[i]? = some e → (∀ j < i, ∀ f, s.services[j]? = some f → covers (packetIdentifier p) f = false) →
    covers (packetIdentifier p) e = true → e.suspension = .active →
    exec (.packetDecoded p { uncorrectable := false, recordLater := false, reportLater := false }) s = .next a →
    exec (.packetDecoded p { uncorrectable := false, recordLater := true, reportLater := false }) s = .next b →
    exec .silenceAssert a = .next x → exec .silenceAssert b = .next y →
    b.waiting.record.isSome = true ∧ x.ou.role ≠ .owner ∧ y.ou.role = x.ou.role ∧ x.sau.credit = 0 ∧ y.sau.credit = 0
      ∧ x.sau.offered = min 65535 (s.sau.offered + 1) ∧ y.sau.offered = s.sau.offered
      ∧ ∀ c, (dropsOf c y.ri).count = (dropsOf c x.ri).count
        ∧ (dropsOf c x.ri).count = min 255 ((dropsOf c s.ri).count + lineDrop c s.ri.tx + (queueOf c s.ri).length
          + if c = e.cls then 1 else 0))
  ∧ (∀ (e : RingEntry) (s : State), s.resetLow = false → s.ou.role = .owner → s.sau.ticking = true →
    s.waiting = { record := some (.admission, e), burst := false } →
    let credit := min (100 * (s.cfg.burst : Int)) (s.sau.credit + s.sau.share)
    let passes := e.cls = .premium ∨ (e.cls = .standard ∧ 100 ≤ credit)
      ∨ (e.cls = .spare ∧ 100 + 50 * (s.cfg.burst : Int) ≤ credit)
    ∃ t, exec .admissionTick s = .next t ∧ t.sau.offered = min 65535 (s.sau.offered + 1)
      ∧ t.sau.credit = (if passes ∧ (queueOf e.cls s.ri).length < queueCapacity e.cls
          then max (-(100 * (s.cfg.burst : Int))) (credit - 100) else credit))

/-! ## Report expiry and the timers -/

/-- R67, R72, R73, R82, R115, R118, R162, R163: a report expiry, whichever of the two blocks takes it first, closes the period:
the smoothed merit is formed (in TRACK from the raw merit, from it alone while the fresh mark is set; elsewhere 0), the tallies
are cleared, the demand is formed from the offered count, which is cleared (an entry into OWNER at this expiry may offer
packets before or after), the use marks move, the peer view is aged, an entry beyond the silence limit leaving it, the empty-
group mark of the expiry before is kept and this one's says whether no rival is OWNER or TAKING, the share is that of the
owners considered, and a STATUS is requested in every role. An owner's share comes from the peer view as it stands when the
share unit takes the expiry: before the ageing or after it. -/
def Obligations.ReportExpiryClosesPeriod : Prop :=
  ∀ (b : Bool) (n : Nat) (s : State), running s → s.ou.reportTimer = some n →
    let aged := s.ou.peers.filterMap fun p =>
      if s.cfg.silenceLimit < p.age + 1 then none
      else some { p with age := p.age + 1, liveness := if 2 ≤ p.age + 1 then .stale else .live }
    ∃ t, exec (.reportExpiry b) s = .next t ∧ t.ri.statusSlot = true ∧ t.ou.reportTimer = some n
      ∧ t.services = s.services.map (fun e => { e with lastPeriod := e.thisPeriod, thisPeriod := false })
      ∧ t.pru.tallies = .zero ∧ t.gau = s.gau ∧ t.wu = s.wu ∧ t.ib = s.ib ∧ t.cfg = s.cfg ∧ t.loader = s.loader
      ∧ (b = true ∨ s.ou.role ≠ .standby → t.sau.demand = min 4095 (s.sau.offered * 100 / s.cfg.reportPeriod))
      ∧ (b = false ∨ s.ou.role ≠ .standby → t.sau.offered = 0)
      ∧ (s.gau.acq ≠ .track → t.pru.smoothed = 0)
      ∧ (∀ g, s.gau.acq = .track → s.pru.signalling = some g → t.pru.fresh = false
        ∧ (s.pru.fresh = true → t.pru.smoothed = rawMerit s.pru.tallies (requiredMer g))
        ∧ (s.pru.fresh = false →
          t.pru.smoothed = (3 * s.pru.smoothed + rawMerit s.pru.tallies (requiredMer g)) / 4))
      ∧ t.ou.peers = aged ∧ t.ou.previousMark = s.ou.emptyMark
      ∧ (t.ou.emptyMark = true ↔ ∀ p ∈ aged, p.liveness = .live → p.group = s.cfg.group →
          p.role ≠ .owner ∧ p.role ≠ .taking)
      ∧ (t.ou.role ≠ .owner → t.sau.share = 0)
      ∧ (t.ou.role = .owner →
        let view := if b = true ∧ s.ou.role = .owner then s.ou.peers else aged
        let own := (t.sau.demand, s.cfg.floor)
        t.sau.share = shareOf s.cfg.budget
          (own :: (view.filter fun p => decide (p.liveness = .live ∧ p.role = .owner)).map fun p => (p.demand, p.floor))
          own)

/-- What each role decides at a report expiry, on the merit and the view that expiry leaves. R119, R120, R122, R123: a STANDBY
station in TRACK, at or above the floor, free to transmit, that finds the group empty at this expiry and the one before
becomes OWNER at once, without a TAKE, on the last owner signature as its anchor (R119, R123, R151). R124: otherwise its
challenge test: above the best rival owner's merit by more than the hysteresis the count rises, and at the challenge limit a
TAKE with its group, merit and lead anchor is requested, the role becomes TAKING and the handover timer starts; otherwise,
with no rival owner, and when it may not own, the count returns to 0. R125: an OWNER below the floor yields to the best
qualifying rival with reason BELOW_FLOOR and goes on without one. In the other roles nothing is decided. -/
def Obligations.PeriodicDecisionByRole : Prop :=
  ∀ (b : Bool) (n : Nat) (s : State), running s → s.ou.reportTimer = some n →
    ∃ t, exec (.reportExpiry b) s = .next t ∧
      let fit := s.gau.acq = .track ∧ s.cfg.meritFloor ≤ t.pru.smoothed ∧ s.silence = false ∧ s.ri.clashHold = none
      let empty := t.ou.emptyMark = true ∧ t.ou.previousMark = true
      let stays := fun count : Nat => t.ou.role = s.ou.role ∧ t.ou.challengeCount = count ∧ t.hbu = s.hbu
        ∧ t.ri.takeSlot = s.ri.takeSlot ∧ t.ri.yieldSlot = s.ri.yieldSlot ∧ t.ou.handoverTimer = s.ou.handoverTimer
      (s.ou.role = .standby →
        (fit → empty → t.ou.role = .owner ∧ ownsFrom (lastHeard s.ou.lastPayloadSender t.ou.peers) s.hbu t.hbu
          ∧ t.ou.handoverTimer = none ∧ t.ri.takeSlot = none ∧ t.ri.lastSent = none ∧ t.ou.challengeCount = 0)
        ∧ (¬fit → stays 0)
        ∧ (fit → ¬empty → (∀ p ∈ t.ou.peers, ¬rivalOwning s p) → stays 0)
        ∧ (fit → ¬empty → ∀ best, bestPeer (rivalOwning s) t.ou.peers best →
          (t.pru.smoothed ≤ best.merit + s.cfg.hysteresis → stays 0)
          ∧ (best.merit + s.cfg.hysteresis < t.pru.smoothed → s.ou.challengeCount + 1 < s.cfg.challengeLimit →
            stays (s.ou.challengeCount + 1))
          ∧ (best.merit + s.cfg.hysteresis < t.pru.smoothed → s.cfg.challengeLimit ≤ s.ou.challengeCount + 1 →
            t.ou.role = .taking ∧ t.ou.challengeCount = 0 ∧ t.ou.handoverTimer = some s.cfg.handoverTimeout
            ∧ t.ri.takeSlot = some { group := s.cfg.group, merit := t.pru.smoothed, anchor := s.hbu.lead.getLast? }
            ∧ t.hbu.ring = s.hbu.ring ∧ t.hbu.lead = s.hbu.lead)))
      ∧ (s.ou.role = .owner →
        (t.pru.smoothed < s.cfg.meritFloor → ∀ best, bestPeer (qualifyingRival s) t.ou.peers best →
          t.ou.role = .yielding ∧ t.hbu.phase = .none ∧ t.sau.credit = 0
          ∧ t.ri.yieldSlot = some { group := s.cfg.group, successor := some best.address, reason := .belowFloor }
          ∧ t.ri.premium = [] ∧ t.ri.standard = [] ∧ t.ri.spare = [] ∧ t.hbu.ring = [] ∧ t.hbu.lead = [])
        ∧ (s.cfg.meritFloor ≤ t.pru.smoothed ∨ (∀ p ∈ t.ou.peers, ¬qualifyingRival s p) → stays s.ou.challengeCount))
      ∧ (s.ou.role ≠ .standby → s.ou.role ≠ .owner → stays s.ou.challengeCount)

/-- R120, R121, R131, R132, R136, R142: the role follows the acquisition state. The entry into TRACK takes ABSENT to STANDBY.
A fall into HOLD leaves STANDBY with its stores, ends a take in STANDBY, its TAKE withdrawn and its timer stopped, and makes
an OWNER yield with reason LOCK_LOST to the best qualifying rival, or go on without one. A fall below HOLD, by the hold limit
or by changed signalling, leaves no role but ABSENT and YIELDING: STANDBY and TAKING fall to ABSENT with empty stores, and an
OWNER yields with reason LOCK_LOST to no successor. A station already YIELDING goes on with its yield. -/
def Obligations.RoleFollowsAcquisition : Prop :=
  (∀ (g : Signalling) (s : State), running s → s.gau.acq = .frame → s.gau.subState = .confirm →
    s.gau.candidate = some g → s.ou.role = .absent →
    ∃ t, exec (.frameCheck ⟨true, some g⟩) s = .next t ∧ t.gau.acq = .track ∧ t.ou = { s.ou with
        role := .standby, challengeCount := 0 } ∧ t.ri.statusSlot = true)
  ∧ (∀ (r : Option Signalling) (s : State), running s → s.gau.acq = .track → s.gau.syncMissRun = 1 →
    ∃ t, exec (.frameCheck ⟨false, r⟩) s = .next t ∧ t.gau.acq = .hold
      ∧ (s.ou.role = .standby ∨ s.ou.role = .yielding → t.ou = s.ou ∧ t.hbu = s.hbu)
      ∧ (s.ou.role = .taking → t.ou = { s.ou with role := .standby, challengeCount := 0, handoverTimer := none }
        ∧ t.ri.takeSlot = none ∧ t.ri.statusSlot = true ∧ t.hbu.ring = s.hbu.ring ∧ t.hbu.lead = s.hbu.lead)
      ∧ (s.ou.role = .owner →
        (∀ best, bestPeer (qualifyingRival s) s.ou.peers best → t.ou.role = .yielding ∧ t.ri.statusSlot = true
          ∧ t.ri.yieldSlot = some { group := s.cfg.group, successor := some best.address, reason := .lockLost }
          ∧ t.hbu.ring = [] ∧ t.hbu.phase = .none ∧ t.sau.credit = 0)
        ∧ ((∀ p ∈ s.ou.peers, ¬qualifyingRival s p) → t.ou = s.ou ∧ t.hbu = s.hbu ∧ t.sau = s.sau)))
  ∧ (∀ (c : Instr) (s : State), running s →
    (c = .holdLimit ∧ s.gau.acq = .hold ∧ s.gau.holdCount = s.cfg.holdLimit
      ∨ ∃ g, c = .frameCheck ⟨true, some g⟩ ∧ s.gau.acq = .track ∧ s.gau.current ≠ some g) →
    ∃ t, exec c s = .next t ∧ belowHold t.gau.acq = true
      ∧ (s.ou.role = .absent ∨ s.ou.role = .yielding → t.ou = s.ou ∧ t.hbu = s.hbu)
      ∧ (s.ou.role = .standby ∨ s.ou.role = .taking → t.ou.role = .absent ∧ t.hbu.ring = [] ∧ t.hbu.lead = []
        ∧ t.hbu.lastReleased = none ∧ t.ou.challengeCount = 0 ∧ t.ri.statusSlot = true)
      ∧ (s.ou.role = .taking → t.ri.takeSlot = none ∧ t.ou.handoverTimer = none)
      ∧ (s.ou.role = .owner → t.ou.role = .yielding ∧ t.hbu.phase = .none
        ∧ t.ri.yieldSlot = some { group := s.cfg.group, successor := none, reason := .lockLost }
        ∧ t.ri.premium = [] ∧ t.ri.standard = [] ∧ t.ri.spare = [] ∧ t.hbu.ring = [] ∧ t.hbu.lead = []
        ∧ t.sau.share = 0 ∧ t.sau.credit = 0))

/-- R163, R164: an owner's effective demand is the greater of its demand and floor. When these fit the budget each owner has
its own and an equal part of the rest; else, when the floors fit, its floor and a part of the rest in proportion to how far
its effective demand stands above it; else a part of the budget in proportion to its floor; each quotient rounded down. R165:
applied to each of the owners considered, they give shares that never sum past the budget and leave less of it unused than
there are owners. R168: at an admission tick an owner's credit rises by the share, clamped at 100 × burst; in any other role
nothing changes. -/
def Obligations.SharesKeepBudgetAndRaiseCredit : Prop :=
  (∀ (budget : Nat) (owners : List (Nat × Nat)),
    let effective := fun o : Nat × Nat => max o.1 o.2
    let demands := (owners.map effective).sum
    let floors := (owners.map Prod.snd).sum
    (∀ o, (demands ≤ budget → shareOf budget owners o = effective o + (budget - demands) / owners.length)
      ∧ (budget < demands → floors ≤ budget → shareOf budget owners o
          = o.2 + (budget - floors) * (effective o - o.2) / (owners.map fun x => effective x - x.2).sum)
      ∧ (budget < floors → shareOf budget owners o = o.2 * budget / floors))
    ∧ (owners.map (shareOf budget owners)).sum ≤ budget
    ∧ (owners ≠ [] → budget < (owners.map (shareOf budget owners)).sum + owners.length))
  ∧ (∀ s : State, running s → s.sau.ticking = true →
    exec .admissionTick s = .next (if s.ou.role = .owner then
      { s with sau := { s.sau with credit := min (100 * (s.cfg.burst : Int)) (s.sau.credit + s.sau.share) } } else s))

/-- R120, R122, R130: when the handover timer runs out while TAKING, a rival OWNER in view ends the take and the station is
STANDBY; with none it becomes OWNER on the last owner signature as its anchor (R119, R151), and either way the timer stops and
no TAKE is left pending. R85, R87, R192: the end of one entry's hold makes that entry ACTIVE with its use marks as they stand,
leaves every other entry, and releases the clash condition when no other entry is SUSPENDED. R111, R91, R192: the end of an
address clash hold releases its part of FAULT and lets the riser interface select again: on an idle line a waiting STATUS goes
into arbitration at once. That an IDLE view at the hold's end counts as the next IDLE is the model's reading: assumption log
9. R191: the end of the 250 ms ends the inversion and leaves the base pattern and its cycle. -/
def Obligations.TimersAndHoldsEnd : Prop :=
  (∀ (n : Nat) (s : State), running s → s.ou.role = .taking → s.ou.handoverTimer = some n →
    s.silence = false → s.ri.clashHold = none →
    ∃ t, exec .handoverTimerExpiry s = .next t ∧ t.ou.handoverTimer = none ∧ t.ri.takeSlot = none
      ∧ t.ri.statusSlot = true ∧ t.gau = s.gau ∧ t.pru = s.pru ∧ t.ou.peers = s.ou.peers
      ∧ ((∃ p ∈ s.ou.peers, rivalOwning s p) →
          t.ou.role = .standby ∧ t.hbu.ring = s.hbu.ring ∧ t.hbu.lead = s.hbu.lead)
      ∧ ((∀ p ∈ s.ou.peers, ¬rivalOwning s p) →
          t.ou.role = .owner ∧ ownsFrom (lastHeard s.ou.lastPayloadSender s.ou.peers) s.hbu t.hbu
          ∧ t.iu.pattern ≠ .slowBlink))
  ∧ (∀ (i : Nat) (s : State), running s →
    ∃ t, exec (.suspensionHoldEnd i) s = .next t ∧ t = { s with services := t.services }
      ∧ t.services.length = s.services.length
      ∧ (∀ e, s.services[i]? = some e → t.services[i]? = some { e with suspension := .active })
      ∧ (∀ j, j ≠ i → t.services[j]? = s.services[j]?)
      ∧ ((∀ j e, j ≠ i → s.services[j]? = some e → e.suspension = .active) → clashCondition t = false))
  ∧ (∀ (n : Nat) (s : State), running s → s.ri.clashHold = some n →
    ∃ t, exec .addressClashHoldEnd s = .next t ∧ t.ri.clashHold = none ∧ t.ri.clashFlag = s.ri.clashFlag
      ∧ t = { s with ri := t.ri, iu := t.iu }
      ∧ (s.loader.state ≠ .configFault → clashCondition s = false → faultAsserted t = false)
      ∧ (s.silence = false → s.ri.busView = .idle → s.ri.tx = .silent → s.ri.yieldSlot = none → s.ri.takeSlot = none →
          s.ri.statusSlot = true → t.ri.tx = .arbitrating .status ∧ t.ri.busView = .busy ∧ t.ri.statusSlot = true))
  ∧ (∀ s : State, running s → exec .handoverFlashEnd s = .next { s with iu := { s.iu with flash := none } }
    ∧ ∀ n, lampHigh { s with iu := { s.iu with flash := none } } n = patternLit s.iu.pattern n)

/-! ## The riser line -/

/-- R90, R91, R97: when the line goes idle, a station that is not sending and may transmit starts the first frame that stands
of YIELD, TAKE, STATUS and, while OWNER, the heads of the PREMIUM, STANDARD and SPARE queues, leaving it where it waits; with
none, under SILENCE or during an address clash hold, its view becomes IDLE and it starts nothing. R177: from then on frames
are compared with its address (assumption log 31). R90, R91, R92: at another station's start bit on an idle line the view
becomes BUSY, and a station with a frame selected joins the arbitration with it; one that loses drives nothing more and its
frame stays where it was. -/
def Obligations.IdleLineAndStartBitBeginFrames : Prop :=
  (∀ s : State, running s → s.ri.tx = .silent →
    let noSlot := s.ri.yieldSlot = none ∧ s.ri.takeSlot = none ∧ s.ri.statusSlot = false
    let free := s.silence = false ∧ s.ri.clashHold = none
    let starts := fun sel => exec .busIdle s = .next { s with ri := { s.ri with
      busView := .busy, heardIdle := true, tx := .arbitrating sel } }
    (free → s.ri.yieldSlot.isSome = true → starts .yield)
    ∧ (free → s.ri.yieldSlot = none → s.ri.takeSlot.isSome = true → starts .take)
    ∧ (free → s.ri.yieldSlot = none → s.ri.takeSlot = none → s.ri.statusSlot = true → starts .status)
    ∧ (free → noSlot → s.ou.role = .owner → s.ri.premium ≠ [] → starts (.payload .premium))
    ∧ (free → noSlot → s.ou.role = .owner → s.ri.premium = [] → s.ri.standard ≠ [] → starts (.payload .standard))
    ∧ (free → noSlot → s.ou.role = .owner → s.ri.premium = [] → s.ri.standard = [] → s.ri.spare ≠ [] →
        starts (.payload .spare))
    ∧ (¬free ∨ (noSlot ∧ (s.ou.role ≠ .owner ∨ (s.ri.premium = [] ∧ s.ri.standard = [] ∧ s.ri.spare = []))) →
        exec .busIdle s = .next { s with ri := { s.ri with busView := .idle, heardIdle := true } }))
  ∧ (∀ s : State, running s →
    (s.ri.busView = .idle → s.ri.tx = .silent → ∀ sel, allowedFrame s = some sel →
      exec .startBit s = .next { s with ri := { s.ri with busView := .busy, tx := .arbitrating sel } })
    ∧ (s.ri.busView = .idle → s.ri.tx = .silent → allowedFrame s = none →
      exec .startBit s = .next { s with ri := { s.ri with busView := .busy } })
    ∧ (∀ sel, s.ri.tx = .arbitrating sel →
      exec .arbitrationLost s = .next { s with ri := { s.ri with tx := .silent } }))

/-- R17, R98, R103 to R105: a STATUS that wins empties its slot and takes every field as it stands, from the blocks that own
it; every cause present takes a carried mark, every count its carried value, and the address clash flag its mark. In the role
YIELDING this does not arise (R105; assumption log 4). -/
def Obligations.WinningStatusTakesContent : Prop :=
  ∀ s : State, running s → s.ri.tx = .arbitrating .status → s.ou.role ≠ .yielding →
    ∃ t f, exec .arbitrationWon s = .next t ∧ t.ri.tx = .transmitting (.status f)
      ∧ t = { s with ri := t.ri, gau := { s.gau with carried := s.gau.causes } }
      ∧ t.ri.statusSlot = false ∧ t.ri.dropsPremium = { s.ri.dropsPremium with carried := some s.ri.dropsPremium.count }
      ∧ t.ri.dropsStandard = { s.ri.dropsStandard with carried := some s.ri.dropsStandard.count }
      ∧ t.ri.dropsSpare = { s.ri.dropsSpare with carried := some s.ri.dropsSpare.count }
      ∧ t.ri.receiveErrors = { s.ri.receiveErrors with carried := some s.ri.receiveErrors.count }
      ∧ t.ri.clashCarried = s.ri.clashFlag ∧ f.sender = s.loader.address ∧ f.group = s.cfg.group
      ∧ (s.ou.role = .owner → f.role = .owner ∧ f.phase = s.hbu.phase)
      ∧ (s.ou.role ≠ .owner → f.phase = .none)
      ∧ (s.ou.role = .taking → f.role = .taking) ∧ (s.ou.role = .standby → f.role = .standby)
      ∧ (s.ou.role = .absent → f.role = .absent)
      ∧ f.acq = s.gau.acq ∧ f.merit = s.pru.smoothed ∧ f.demand = s.sau.demand ∧ f.floor = s.cfg.floor
      ∧ f.causes = s.gau.causes ∧ f.fallsHold = s.gau.fallsHold ∧ f.fallsFrame = s.gau.fallsFrame
      ∧ f.fallsSymbol = s.gau.fallsSymbol ∧ f.ringDepth = s.hbu.ring.length ∧ f.leadDepth = s.hbu.lead.length
      ∧ f.clash = s.services.any isSuspended ∧ f.addressClash = s.ri.clashFlag ∧ f.configClamped = s.loader.clamped
      ∧ f.dropsPremium = s.ri.dropsPremium.count ∧ f.dropsStandard = s.ri.dropsStandard.count
      ∧ f.dropsSpare = s.ri.dropsSpare.count ∧ f.receiveErrors = s.ri.receiveErrors.count

/-- R98, R58, R79: a PAYLOAD that wins leaves the head of its queue; its header carries the entry's fields, and its packet is
the 188 bytes as decoded but for the identifier, in the low five bits of the second byte and the whole third, which is the
output identifier, and the error indicator, the second byte's top bit, which is set when the errored flag is; the second
byte's other two bits stay. R94, R98, R102: a TAKE and a YIELD that win empty their slots and carry the content of the request
with this station's address; the YIELD's last signature is the last-sent signature, as it stands. -/
def Obligations.WinningFramesTakeContent : Prop :=
  (∀ (cls : ServiceClass) (e : QueueEntry) (rest : List QueueEntry) (s : State), running s →
    s.ri.tx = .arbitrating (.payload cls) → queueOf cls s.ri = e :: rest → e.outId ≤ 8191 →
    ∃ t q, exec .arbitrationWon s = .next t ∧ t = { s with ri := t.ri }
      ∧ t.ri.tx = .transmitting (.payload
          { sender := s.loader.address, group := s.cfg.group, errored := e.errored, cls := e.cls, outId := e.outId,
            signature := e.signature } q)
      ∧ queueOf cls t.ri = rest ∧ (∀ c, c ≠ cls → queueOf c t.ri = queueOf c s.ri)
      ∧ 256 * (q[1].toNat % 32) + q[2].toNat = e.outId ∧ packetIdentifier q = e.outId
      ∧ q[1].getLsbD 7 = (e.errored || e.bytes[1].getLsbD 7) ∧ errorIndicator q = (e.errored || errorIndicator e.bytes)
      ∧ q[1].getLsbD 6 = e.bytes[1].getLsbD 6 ∧ q[1].getLsbD 5 = e.bytes[1].getLsbD 5
      ∧ ∀ i : Fin 188, i.val ≠ 1 → i.val ≠ 2 → q[i] = e.bytes[i])
  ∧ (∀ (r : TakeRequest) (s : State), running s → s.ri.tx = .arbitrating .take → s.ri.takeSlot = some r →
    exec .arbitrationWon s = .next { s with ri := { s.ri with
      takeSlot := none
      tx := .transmitting (.take
        { sender := s.loader.address, group := r.group, merit := r.merit, anchor := r.anchor }) } })
  ∧ (∀ (r : YieldRequest) (s : State), running s → s.ri.tx = .arbitrating .yield → s.ri.yieldSlot = some r →
    exec .arbitrationWon s = .next { s with ri := { s.ri with
      yieldSlot := none
      tx := .transmitting (.yield
        { sender := s.loader.address, group := r.group, lastSignature := s.ri.lastSent, successor := r.successor,
          reason := r.reason }) } })

/-- R18, R100, R103, R104, R127: a completed STATUS takes off what it carried: causes still marked leave the set, counts are
reduced, a flag still marked is cleared; a completed TAKE restarts the handover timer of a station still TAKING; a completed
PAYLOAD outside DRAIN moves the last-sent signature alone. R136, R142: the YIELD's completion ends the yield: STANDBY in
TRACK or HOLD, ABSENT below HOLD, with a STATUS requested. -/
def Obligations.FrameSentReachesItsOwner : Prop :=
  (∀ s : State, running s →
    (∀ f, s.ri.tx = .transmitting (.status f) → ∃ t, exec .frameSent s = .next t
      ∧ t = { s with ri := t.ri, gau := t.gau } ∧ t.ri.tx = .silent
      ∧ t.gau = { s.gau with causes := t.gau.causes, carried := noCauses }
      ∧ (∀ c, causePresent c t.gau.causes = (causePresent c s.gau.causes && !causePresent c s.gau.carried))
      ∧ t.ri.dropsPremium.count = s.ri.dropsPremium.count - s.ri.dropsPremium.carried.getD 0
      ∧ t.ri.dropsStandard.count = s.ri.dropsStandard.count - s.ri.dropsStandard.carried.getD 0
      ∧ t.ri.dropsSpare.count = s.ri.dropsSpare.count - s.ri.dropsSpare.carried.getD 0
      ∧ t.ri.receiveErrors.count = s.ri.receiveErrors.count - s.ri.receiveErrors.carried.getD 0
      ∧ t.ri.dropsPremium.carried = none ∧ t.ri.receiveErrors.carried = none
      ∧ t.ri.clashFlag = (s.ri.clashFlag && !s.ri.clashCarried) ∧ t.ri.statusSlot = s.ri.statusSlot)
    ∧ (∀ f, s.ri.tx = .transmitting (.take f) → exec .frameSent s = .next { s with
        ri := { s.ri with tx := .silent }
        ou := { s.ou with handoverTimer :=
          if s.ou.role = .taking then some s.cfg.handoverTimeout else s.ou.handoverTimer } })
    ∧ (∀ h p, s.ri.tx = .transmitting (.payload h p) → ¬(s.ou.role = .owner ∧ s.hbu.phase = .drain) →
      exec .frameSent s = .next { s with ri := { s.ri with tx := .silent, lastSent := some h.signature } }))
  ∧ (∀ (f : YieldFrame) (s : State), running s → s.ri.tx = .transmitting (.yield f) → s.ou.role = .yielding →
    ∃ t, exec .frameSent s = .next t ∧ t.ri.tx = .silent ∧ t.ri.statusSlot = true ∧ t.ou.challengeCount = 0
      ∧ (s.gau.acq = .track ∨ s.gau.acq = .hold → t.ou.role = .standby)
      ∧ (s.gau.acq ≠ .track → s.gau.acq ≠ .hold → t.ou.role = .absent ∧ t.hbu.ring = [] ∧ t.hbu.lead = []))

/-- R93, R101, R104, R108, R110, R137: an address clash, found by readback or by a good frame bearing this station's address,
stops the station: nothing driven, slots emptied but for the STATUS a role change requests, queues emptied, every packet
dropped and counted in its class with the one on the line, the flag set without a mark, a hold of 2000 ms, FAULT asserted, and
the role and the hold-back stores as a cut-off leaves them (R137, R142). R177: frames are compared with the address from the
first IDLE on; that before it such a frame changes the bus view alone is the model's reading: assumption log 31. -/
def Obligations.AddressClashStopsStation : Prop :=
  (∀ (c : Instr) (s : State), running s →
    (c = .readbackMismatch ∧ (∃ f, s.ri.tx = .transmitting f)
      ∨ (s.ri.heardIdle = true ∧ ((∃ bytes f, c = .ownAddressFrame bytes ∧ checkFrame bytes = some f
          ∧ frameSender f = s.loader.address)
        ∨ ∃ f, c = .statusReceived f ∧ f.wf = true ∧ f.sender = s.loader.address))) →
    ∃ t, exec c s = .next t ∧ t.ri.tx = .silent ∧ t.ri.clashFlag = true ∧ t.ri.clashCarried = false
      ∧ t.ri.clashHold = some 2000 ∧ t.ri.yieldSlot = none ∧ t.ri.takeSlot = none ∧ t.ri.premium = []
      ∧ t.ri.standard = [] ∧ t.ri.spare = [] ∧ t.ri.lastSent = s.ri.lastSent ∧ faultAsserted t = true
      ∧ t.gau.causes = s.gau.causes ∧ t.pru = s.pru ∧ t.ou.peers = s.ou.peers
      ∧ (∀ c, (dropsOf c t.ri).count = min 255 ((dropsOf c s.ri).count + lineDrop c s.ri.tx + (queueOf c s.ri).length))
      ∧ cutOff s t)
  ∧ (∀ (bytes : List Byte) (f : Frame) (s : State), running s → s.ri.heardIdle = false → checkFrame bytes = some f →
    frameSender f = s.loader.address →
    exec (.ownAddressFrame bytes) s = .next { s with ri := { s.ri with busView := .busy } })

/-! ## The indicator -/

/-- R189: the base pattern by the first of its rows that stands. R188: when each pattern lights the lamp, in half-milliseconds
of its cycle. R191: while a handover flash runs the lamp shows the inverse. A flash of 250 ms starts, or starts again, at a
change into OWNER (here at a YIELD heard while TAKING) and out of it (here at a TAKE of greater merit); no other change of
role starts, ends or restarts one (here a take ended by the handover timeout); under the double flash none starts and one that
runs ends (here at an address clash). -/
def Obligations.LampShowsPatternsAndFlash : Prop :=
  (∀ s : State,
    let fault := s.loader.state = .configFault ∨ s.ri.clashHold ≠ none
    let live := s.ou.role = .owner ∧ s.hbu.phase = .live
    let handing := (s.ou.role = .owner ∧ (s.hbu.phase = .catchUp ∨ s.hbu.phase = .drain)) ∨ s.ou.role = .taking
    let standing := (s.ou.role = .standby ∨ s.ou.role = .yielding) ∧ s.gau.acq = .track
    let seeking := s.gau.acq = .symbol ∨ s.gau.acq = .frame ∨ s.gau.acq = .hold
      ∨ (s.gau.acq = .gain ∧ s.gau.noSignalRestarts = 0)
    (fault → basePattern s = .doubleFlash)
    ∧ (¬fault → live → basePattern s = .steady)
    ∧ (¬fault → ¬live → handing → basePattern s = .fastBlink)
    ∧ (¬fault → ¬live → ¬handing → standing → basePattern s = .slowBlink)
    ∧ (¬fault → ¬live → ¬handing → ¬standing → seeking → basePattern s = .intermittent)
    ∧ (¬fault → ¬live → ¬handing → ¬standing → ¬seeking → basePattern s = .off))
  ∧ (∀ n : Nat, patternLit .steady n = true ∧ patternLit .off n = false
    ∧ (patternLit .doubleFlash n = true ↔ n % 2000 < 200 ∨ (400 ≤ n % 2000 ∧ n % 2000 < 600))
    ∧ (patternLit .fastBlink n = true ↔ n % 250 < 125)
    ∧ (patternLit .slowBlink n = true ↔ n % 2000 < 1000)
    ∧ (patternLit .intermittent n = true ↔ n % 2000 < 1000 ∧ n % 250 < 125))
  ∧ (∀ (s : State) (n : Nat), (s.iu.flash = none → lampHigh s n = patternLit s.iu.pattern n)
    ∧ (s.iu.flash ≠ none → lampHigh s n = !patternLit s.iu.pattern n))
  ∧ (∀ s : State, running s → s.loader.state = .complete → s.ri.clashHold = none →
    (∀ f : YieldFrame, f.sender ≠ s.loader.address → f.group = s.cfg.group → s.silence = false → s.ou.role = .taking →
      (f.successor = none ∨ f.successor = some s.loader.address) →
      ∃ t, exec (.yieldReceived f) s = .next t ∧ t.ou.role = .owner ∧ t.iu.flash = some 250)
    ∧ (∀ f : TakeFrame, f.wf = true → f.sender ≠ s.loader.address → f.group = s.cfg.group → s.ou.role = .owner →
      s.pru.smoothed < f.merit →
      ∃ t, exec (.takeReceived f) s = .next t ∧ t.ou.role = .yielding ∧ t.iu.flash = some 250)
    ∧ (∀ n, s.ou.role = .taking → s.ou.handoverTimer = some n → (∃ p ∈ s.ou.peers, rivalOwning s p) →
      ∃ t, exec .handoverTimerExpiry s = .next t ∧ t.ou.role = .standby ∧ t.iu.flash = s.iu.flash))
  ∧ (∀ (f : Frame) (s : State), running s → s.ri.tx = .transmitting f →
    (s.iu.pattern = .doubleFlash → s.iu.flash = none) →
    ∃ t, exec .readbackMismatch s = .next t ∧ t.iu.pattern = .doubleFlash ∧ t.iu.flash = none
      ∧ ∀ n, lampHigh t n = patternLit .doubleFlash n)

/-! ## Frames heard -/

/-- R107, R108, R109: before configuration completes a good frame of another station is checked and discarded: it changes the
bus view alone. R104, R107: a frame that fails the receive checks is discarded and raises the receive error count by 1,
saturating at 255, and nothing else but the bus view. R107: bytes fail exactly when there are fewer than 2, when the type is
none of the four, when their number is not the type's, when the CRC differs, or when a header field is outside its range. -/
def Obligations.UndispatchedFramesOnlyCount : Prop :=
  (∀ (c : Instr) (sender : Address) (s : State), running s → s.loader.state ≠ .complete →
    sender ≠ s.loader.address →
    ((∃ f, c = .statusReceived f ∧ f.wf = true ∧ f.sender = sender)
      ∨ (∃ f, c = .takeReceived f ∧ f.wf = true ∧ f.sender = sender)
      ∨ (∃ f, c = .yieldReceived f ∧ f.sender = sender)
      ∨ ∃ h, c = .payloadReceived h ∧ h.wf = true ∧ h.sender = sender) →
    exec c s = .next { s with ri := { s.ri with busView := .busy } })
  ∧ (∀ (bytes : List Byte) (s : State), running s → frameFails bytes →
    exec (.receiveError bytes) s = .next { s with ri := { s.ri with
      busView := .busy, receiveErrors := { s.ri.receiveErrors with count := min 255 (s.ri.receiveErrors.count + 1) } } })
  ∧ ∀ bytes : List Byte, checkFrame bytes = none ↔ frameFails bytes

/-- R116, R117: a STATUS overwrites its sender's entry, or creates it, LIVE and of age 0, and leaves every other entry; the
last signature is kept only for an entry of the same group. In ABSENT, STANDBY and YIELDING nothing else changes, and in the
other roles nothing unless it announces a rival OWNER. R129: a TAKING station that hears a rival OWNER's STATUS gives up its
take when the owner's merit is at or above its own, its TAKE withdrawn and its timer stopped, and goes on with it when it is
below. -/
def Obligations.StatusUpdatesPeerView : Prop :=
  ∀ (f : StatusFrame) (s : State), running s → s.loader.state = .complete → f.wf = true →
    f.sender ≠ s.loader.address → (s.ou.peers.Pairwise fun a b => a.address < b.address) →
    ∃ t, exec (.statusReceived f) s = .next t ∧ t.ri.busView = .busy
      ∧ (¬(f.group = s.cfg.group ∧ f.role = .owner ∧
            (s.ou.role = .owner ∨ (s.ou.role = .taking ∧ s.pru.smoothed ≤ f.merit))) →
          t = { s with ri := { s.ri with busView := .busy }, ou := { s.ou with peers := t.ou.peers } })
      ∧ (f.group = s.cfg.group → f.role = .owner → s.ou.role = .taking → s.pru.smoothed ≤ f.merit →
          t.ou = { s.ou with
            peers := t.ou.peers, role := .standby, challengeCount := 0, handoverTimer := none }
          ∧ t.ri.takeSlot = none ∧ t.ri.statusSlot = true ∧ t.hbu.ring = s.hbu.ring ∧ t.hbu.lead = s.hbu.lead)
      ∧ (∀ a, a ≠ f.sender → peerOf a t.ou.peers = peerOf a s.ou.peers)
      ∧ ∃ p, peerOf f.sender t.ou.peers = some p ∧ p.group = f.group ∧ p.role = f.role ∧ p.acq = f.acq
        ∧ p.merit = f.merit ∧ p.demand = f.demand ∧ p.floor = f.floor ∧ p.age = 0 ∧ p.liveness = .live
        ∧ (peerOf f.sender s.ou.peers = none → p.lastSignature = none)
        ∧ (∀ q, peerOf f.sender s.ou.peers = some q →
            p.lastSignature = (if q.group = f.group then q.lastSignature else none))

/-- R133, R135, R99, R96: an OWNER that hears a rival OWNER of greater merit, or of equal merit and lower address, yields to
it with reason DUPLICATE: its queues are emptied, its stores too, and its share and credit are 0; otherwise it requests a
STATUS and stays OWNER. R119, R126, R135: a TAKE of this station's group with a greater merit makes an OWNER yield to its
sender with reason CHALLENGED; one with an equal or lower merit is refused with a STATUS; in the other roles, and from another
group, it changes the view alone, where its sender shows TAKING. -/
def Obligations.OwnerYieldsToGreaterMerit : Prop :=
  (∀ (f : StatusFrame) (s : State), running s → s.loader.state = .complete → f.wf = true →
    f.sender ≠ s.loader.address → f.group = s.cfg.group → f.role = .owner → s.ou.role = .owner →
    ((s.pru.smoothed < f.merit ∨ (s.pru.smoothed = f.merit ∧ f.sender < s.loader.address)) →
      ∃ t, exec (.statusReceived f) s = .next t ∧ t.ou.role = .yielding ∧ t.hbu.phase = .none
        ∧ t.ri.yieldSlot = some { group := s.cfg.group, successor := some f.sender, reason := .duplicate }
        ∧ t.ri.statusSlot = true ∧ t.ri.premium = [] ∧ t.ri.standard = [] ∧ t.ri.spare = []
        ∧ sendsPayload t.ri.tx = false ∧ t.hbu.ring = [] ∧ t.hbu.lead = [] ∧ t.sau.share = 0 ∧ t.sau.credit = 0)
    ∧ (¬(s.pru.smoothed < f.merit ∨ (s.pru.smoothed = f.merit ∧ f.sender < s.loader.address)) →
      ∃ t, exec (.statusReceived f) s = .next t ∧ t.ou.role = .owner ∧ t.ri.statusSlot = true
        ∧ t.hbu = s.hbu ∧ t.sau = s.sau ∧ t.ri.yieldSlot = s.ri.yieldSlot))
  ∧ ∀ (f : TakeFrame) (s : State), running s → s.loader.state = .complete → f.wf = true →
    f.sender ≠ s.loader.address →
    let peers := s.ou.peers.map fun p => if p.address = f.sender then { p with role := .taking } else p
    ∃ t, exec (.takeReceived f) s = .next t ∧ t.ou.peers = peers ∧ t.ri.busView = .busy
      ∧ (f.group ≠ s.cfg.group ∨ s.ou.role ≠ .owner →
          t = { s with ri := { s.ri with busView := .busy }, ou := { s.ou with peers := peers } })
      ∧ (f.group = s.cfg.group → s.ou.role = .owner → s.pru.smoothed < f.merit → t.ou.role = .yielding
          ∧ t.ri.yieldSlot = some { group := s.cfg.group, successor := some f.sender, reason := .challenged }
          ∧ t.ri.premium = [] ∧ t.ri.standard = [] ∧ t.ri.spare = [] ∧ t.hbu.ring = [] ∧ t.sau.credit = 0)
      ∧ (f.group = s.cfg.group → s.ou.role = .owner → f.merit ≤ s.pru.smoothed →
          t = { s with ri := { s.ri with busView := .busy, statusSlot := true }, ou := { s.ou with peers := peers } })

/-- R119: a YIELD shows its sender STANDBY in the view, or ABSENT when its reason is LOCK_LOST and its sender was last shown
outside TRACK; one of another group changes the view alone. R134, R137: so does one heard in ABSENT, OWNER or YIELDING, and
one heard in STANDBY that does not name the station, or that names it in HOLD, while SILENCE is asserted or while an address
clash hold stands. R122, R128, R134, R151: a YIELD of this station's group that names it makes it OWNER, from TAKING or from
STANDBY in TRACK, and one that names none does so from TAKING, with the YIELD's last signature as its anchor: with none the
stores are emptied and the phase is LIVE; while the ring is empty, one held in the lead list becomes its newest entry in
CATCH_UP, and one held nowhere gives LIVE; a resolution that gives DRAIN is followed by a drain offer (R155). A YIELD that
names another ends a take. -/
def Obligations.YieldPassesOwnership : Prop :=
  ∀ (f : YieldFrame) (s : State), running s → s.loader.state = .complete → f.sender ≠ s.loader.address →
    let peers := s.ou.peers.map fun p =>
      if p.address = f.sender then
        { p with role := if f.reason = .lockLost ∧ p.acq ≠ .track then .absent else .standby }
      else p
    let viewed := { s with ri := { s.ri with busView := .busy }, ou := { s.ou with peers := peers } }
    let named := f.successor = some s.loader.address
    (f.group ≠ s.cfg.group ∨ s.ou.role = .absent ∨ s.ou.role = .owner ∨ s.ou.role = .yielding
        ∨ (s.ou.role = .standby ∧ ¬(named ∧ s.gau.acq = .track ∧ s.silence = false ∧ s.ri.clashHold = none)) →
      exec (.yieldReceived f) s = .next viewed)
    ∧ (f.group = s.cfg.group → s.silence = false → s.ri.clashHold = none →
      ((s.ou.role = .taking ∧ (named ∨ f.successor = none)) ∨ (s.ou.role = .standby ∧ named ∧ s.gau.acq = .track)) →
      ∃ t, exec (.yieldReceived f) s = .next t ∧ t.ou.role = .owner ∧ t.hbu.phase ≠ .none ∧ t.ou.peers = peers
        ∧ t.hbu.lastReleased = none ∧ t.ri.lastSent = none ∧ t.ri.takeSlot = none ∧ t.ou.handoverTimer = none
        ∧ t.ri.statusSlot = true ∧ ownsFrom f.lastSignature s.hbu t.hbu
        ∧ (f.lastSignature = none → t.hbu.phase = .live ∧ t.hbu.ring = [] ∧ t.hbu.lead = [])
        ∧ (∀ a, f.lastSignature = some a → s.hbu.ring = [] → s.hbu.lastReleased ≠ some a →
            (a ∈ s.hbu.lead → t.hbu.phase = .catchUp ∧ t.hbu.catchUpCount = 0 ∧ t.hbu.lead.getLast? = some a)
            ∧ (a ∉ s.hbu.lead → t.hbu.phase = .live ∧ t.hbu.lead = [])))
    ∧ (∀ a, f.group = s.cfg.group → f.successor = some a → a ≠ s.loader.address → s.ou.role = .taking →
      ∃ t, exec (.yieldReceived f) s = .next t ∧ t.ou.role = .standby ∧ t.ri.takeSlot = none ∧ t.ou.peers = peers
        ∧ t.ou.handoverTimer = none ∧ t.hbu.ring = s.hbu.ring ∧ t.hbu.lead = s.hbu.lead)

/-- R151: the anchor's resolution. The last released signature keeps the whole ring; a clean ring entry releases itself and all
older ones; a lead-list signature, found from the newest, drops the newer ones and starts CATCH_UP; none, or one found
nowhere, empties both stores and gives LIVE. -/
def Obligations.AnchorResolvesByStores : Prop :=
  ∀ h : HoldBack, storesSound h →
    (resolveAnchor none h).phase = .live ∧ (resolveAnchor none h).ring = [] ∧ (resolveAnchor none h).lead = []
    ∧ ∀ a : Signature, (resolveAnchor (some a) h).lastReleased = none
      ∧ (h.lastReleased = some a → (resolveAnchor (some a) h).ring = h.ring
        ∧ (resolveAnchor (some a) h).phase = (if h.ring = [] then .live else .drain))
      ∧ (∀ old e rest, h.lastReleased ≠ some a → h.ring = old ++ e :: rest → e.signature = a → e.errored = false →
          (∀ x ∈ old, x.signature ≠ a ∨ x.errored = true) → (resolveAnchor (some a) h).ring = rest
          ∧ (resolveAnchor (some a) h).phase = (if rest = [] then .live else .drain))
      ∧ (∀ old newer, h.ring = [] → h.lead = old ++ a :: newer → a ∉ newer → (resolveAnchor (some a) h).lead = old ++ [a]
          ∧ (resolveAnchor (some a) h).phase = .catchUp ∧ (resolveAnchor (some a) h).catchUpCount = 0)
      ∧ (h.lastReleased ≠ some a → (∀ e ∈ h.ring, e.signature ≠ a ∨ e.errored = true) → a ∉ h.lead →
          (resolveAnchor (some a) h).ring = [] ∧ (resolveAnchor (some a) h).lead = []
          ∧ (resolveAnchor (some a) h).phase = .live)

/-- R119, R143 to R145: a clean PAYLOAD of this station's group heard in STANDBY or TAKING releases the oldest clean ring
entry of its signature with everything older, joins the lead list while the ring is empty, and is left aside when nothing
matches; its sender becomes the last payload sender. R141: a lead list of 32 loses its oldest to the one that joins. R143: an
errored PAYLOAD, and one heard in the other roles, is left aside by the stores, and recorded with its sender all the same.
R84, R83, R87, R109: a PAYLOAD of a lower group suspends for 2000 ms every entry that is in use, or already suspended, and
whose mode produces the frame's identifier from its input range; it leaves every other entry, and one of a higher group
changes none. -/
def Obligations.PayloadHeardByGroup : Prop :=
  (∀ (h : PayloadHeader) (s : State), running s → s.loader.state = .complete → h.wf = true →
    h.sender ≠ s.loader.address → h.group = s.cfg.group →
    let matched := (s.ou.role = .standby ∨ s.ou.role = .taking) ∧ h.errored = false
    ∃ t, exec (.payloadReceived h) s = .next t
      ∧ t = { s with ri := { s.ri with busView := .busy }, hbu := t.hbu,
                     ou := { s.ou with
                       lastPayloadSender := some h.sender,
                       peers := s.ou.peers.map fun p =>
                         if p.address = h.sender then { p with lastSignature := some h.signature } else p } }
      ∧ (¬matched → t.hbu = s.hbu)
      ∧ (∀ old e rest, matched → s.hbu.ring = old ++ e :: rest → e.signature = h.signature → e.errored = false →
          (∀ x ∈ old, x.signature ≠ h.signature ∨ x.errored = true) →
          t.hbu = { s.hbu with ring := rest, lastReleased := some h.signature })
      ∧ (matched → s.hbu.ring ≠ [] → (∀ e ∈ s.hbu.ring, e.signature ≠ h.signature ∨ e.errored = true) → t.hbu = s.hbu)
      ∧ (matched → s.hbu.ring = [] → s.hbu.lead.length < 32 →
          t.hbu = { s.hbu with lead := s.hbu.lead ++ [h.signature], lastReleased := none })
      ∧ (∀ g rest, matched → s.hbu.ring = [] → s.hbu.lead = g :: rest → rest.length = 31 →
          t.hbu = { s.hbu with lead := rest ++ [h.signature], lastReleased := none }))
  ∧ (∀ (h : PayloadHeader) (s : State), running s → s.loader.state = .complete → h.wf = true →
    h.sender ≠ s.loader.address → h.group ≠ s.cfg.group →
    ∃ t, exec (.payloadReceived h) s = .next t
      ∧ t = { s with ri := { s.ri with busView := .busy }, services := t.services }
      ∧ (s.cfg.group < h.group → t.services = s.services)
      ∧ (h.group < s.cfg.group → ∀ (i : Nat) (e : ServiceEntry), s.services[i]? = some e →
          let clashes := (∃ j < e.count, outputIdentifier e (e.first + j) = h.outId)
            ∧ (e.suspension ≠ .active ∨ e.thisPeriod = true ∨ e.lastPeriod = true)
          (clashes → t.services[i]? = some { e with suspension := .suspended 2000 })
          ∧ (¬clashes → t.services[i]? = some e)))

/-! ## SILENCE -/

/-- R96, R99, R101, R112, R137: SILENCE cuts the station off: nothing driven, slots emptied but for the STATUS of a role
change, every queued packet dropped and counted in its class with the one on the line, OWNER, TAKING and YIELDING fallen to
STANDBY in TRACK or HOLD and to ABSENT below, the hold-back stores kept as they stand into STANDBY and emptied into ABSENT,
with the phase NONE (R142), the last-sent signature kept, every cause kept without its mark when a STATUS was cut. R113: at
the release of SILENCE the riser interface resumes, at once when its view is IDLE and a frame is pending; otherwise only the
level changes. -/
def Obligations.SilencePinCutsAndResumes : Prop :=
  (∀ s : State, running s → s.silence = false →
    ∃ t, exec .silenceAssert s = .next t ∧ t.silence = true ∧ t.ri.tx = .silent ∧ t.ri.yieldSlot = none
      ∧ t.ri.takeSlot = none ∧ t.ri.premium = [] ∧ t.ri.standard = [] ∧ t.ri.spare = []
      ∧ t.ri.lastSent = s.ri.lastSent ∧ t.gau.causes = s.gau.causes ∧ t.gau.acq = s.gau.acq ∧ t.ou.peers = s.ou.peers
      ∧ (∀ c, (dropsOf c t.ri).count = min 255 ((dropsOf c s.ri).count + lineDrop c s.ri.tx + (queueOf c s.ri).length))
      ∧ (∀ f, s.ri.tx = .transmitting (.status f) → t.gau.carried = noCauses)
      ∧ cutOff s t)
  ∧ (∀ s : State, running s → s.silence = true → s.ri.tx = .silent →
    (s.ri.busView = .idle → s.ri.clashHold = none → ∀ sel, selectFrame s = some sel →
      exec .silenceRelease s = .next { s with
        silence := false, ri := { s.ri with busView := .busy, tx := .arbitrating sel } })
    ∧ (s.ri.busView = .busy ∨ s.ri.clashHold ≠ none ∨ selectFrame s = none →
      exec .silenceRelease s = .next { s with silence := false }))

/-! ## Frames on the line -/

/-- R92, R98, R106: where each field of the four frames stands in its bytes, with its code, multi-byte fields most significant
byte first, and the CRC-16 of all the bytes before it in the last two. R59: the CRC-16's register is preset to all ones and
takes each byte most significant bit first, by the generator x^16 + x^12 + x^5 + 1; its value follows uninverted, so that the
register stands at 0 after it. R106, R107: every frame whose fields lie in their ranges is built as bytes that pass the
receive checks and read back as the same frame, every field with it. -/
def Obligations.FrameBytesLaidOutAndReadBack : Prop :=
  (∀ f : StatusFrame, f.wf = true →
    let b := frameBytes (.status f)
    b.length = 22 ∧ u8At b 0 = 4 * f.sender.val ∧ u8At b 1 = 1 ∧ u8At b 2 / 16 = f.group.val
      ∧ [AnnouncedRole.absent, .standby, .taking, .owner][u8At b 2 / 4 % 4]? = some f.role
      ∧ [Phase.none, .catchUp, .drain, .live][u8At b 2 % 4]? = some f.phase
      ∧ [AcqState.idle, .gain, .symbol, .frame, .track, .hold][u8At b 3 / 32]? = some f.acq
      ∧ (u8At b 3).testBit 4 = f.clash ∧ (u8At b 3).testBit 3 = f.addressClash ∧ (u8At b 3).testBit 2 = f.configClamped
      ∧ u8At b 3 % 4 = 0 ∧ u16At b 4 = f.merit ∧ u16At b 6 = f.demand ∧ u16At b 8 = f.floor
      ∧ (u8At b 10).testBit 5 = f.causes.frameLost ∧ (u8At b 10).testBit 4 = f.causes.signallingChanged
      ∧ (u8At b 10).testBit 3 = f.causes.errorBurst ∧ (u8At b 10).testBit 2 = f.causes.erasureBurst
      ∧ (u8At b 10).testBit 1 = f.causes.windowJump ∧ (u8At b 10).testBit 0 = f.causes.gainClipped ∧ u8At b 10 < 64
      ∧ u8At b 11 = f.fallsHold ∧ u8At b 12 = f.fallsFrame ∧ u8At b 13 = f.fallsSymbol ∧ u8At b 14 = f.ringDepth
      ∧ u8At b 15 = f.leadDepth ∧ u8At b 16 = f.dropsPremium ∧ u8At b 17 = f.dropsStandard ∧ u8At b 18 = f.dropsSpare
      ∧ u8At b 19 = f.receiveErrors ∧ sigAt b 20 = crc16 (b.take 20))
  ∧ (∀ f : TakeFrame, f.wf = true →
    let b := frameBytes (.take f)
    b.length = 9 ∧ u8At b 0 = 4 * f.sender.val ∧ u8At b 1 = 2
      ∧ u8At b 2 = 16 * f.group.val + (if f.anchor = none then 0 else 8) ∧ u16At b 3 = f.merit
      ∧ sigAt b 5 = f.anchor.getD 0#16 ∧ sigAt b 7 = crc16 (b.take 7))
  ∧ (∀ f : YieldFrame,
    let b := frameBytes (.yield f)
    b.length = 8 ∧ u8At b 0 = 4 * f.sender.val ∧ u8At b 1 = 3
      ∧ u8At b 2 / 4 = 4 * f.group.val + (if f.lastSignature = none then 0 else 2) + (if f.successor = none then 0 else 1)
      ∧ [YieldReason.challenged, .lockLost, .belowFloor, .duplicate][u8At b 2 % 4]? = some f.reason
      ∧ (∀ a, f.successor = some a → u8At b 3 = 16 * a.val) ∧ (f.successor = none → u8At b 3 = 0)
      ∧ sigAt b 4 = f.lastSignature.getD 0#16 ∧ sigAt b 6 = crc16 (b.take 6))
  ∧ (∀ (h : PayloadHeader) (p : Packet), h.wf = true →
    let b := frameBytes (.payload h p)
    let code := u8At b 0 / 64
    b.length = 197 ∧ [none, some ServiceClass.premium, some .standard, some .spare][code]? = some (some h.cls)
      ∧ u8At b 0 % 64 = 4 * h.sender.val ∧ u8At b 1 = 4
      ∧ u8At b 2 = 16 * h.group.val + (if h.errored then 8 else 0) + 2 * code ∧ u16At b 3 = h.outId
      ∧ sigAt b 5 = h.signature ∧ (∀ i : Fin 188, byteAt b (7 + i.val) = p[i]) ∧ sigAt b 195 = crc16 (b.take 195))
  ∧ (crc16 [] = 0xFFFF#16
    ∧ (∀ (l : List Byte) (b : Byte), crc16 (l ++ [b]) = [7, 6, 5, 4, 3, 2, 1, 0].foldl (fun (c : BitVec 16) (i : Nat) =>
        (c <<< 1) ^^^ (if c.getLsbD 15 = b.getLsbD i then 0x0000#16 else 0x1021#16)) (crc16 l))
    ∧ ∀ l : List Byte, crc16 (l ++ [(crc16 l).extractLsb' 8 8, (crc16 l).extractLsb' 0 8]) = 0#16)
  ∧ ∀ f : Frame, frameSound f → checkFrame (frameBytes f) = some f

/-! ## Rules over every step -/

/-- The invariants hold at reset. -/
def Obligations.ResetStateIsSound : Prop :=
  queuesSound State.reset ∧ storesSound State.reset.hbu ∧ startupSound State.reset ∧ creditSound State.reset
    ∧ meritSound State.reset ∧ pathsSound State.reset.wu.paths ∧ peersSound State.reset ∧ lineSound State.reset
    ∧ windowSound State.reset ∧ State.reset.iu.pattern = basePattern State.reset

/-- R96: no step from a state whose payload queues keep their capacities takes one past it, and R139 to R149: none takes the
hold-back ring past 128 entries or the lead list past 32, or leaves both non-empty. -/
def Obligations.StepKeepsQueuesAndStores : Prop :=
  ∀ s t : State, queuesSound s → storesSound s.hbu → step s = .next t → queuesSound t ∧ storesSound t.hbu

/-- R167: no step takes the credit outside −100 × burst .. +100 × burst, or leaves it other than 0 outside OWNER; the station
stays ABSENT in IDLE until configuration completes (R6, R120, R178). R73: no step takes the smoothed merit outside 0..1000,
or leaves it other than 0 outside TRACK. -/
def Obligations.StepKeepsCreditAndMerit : Prop :=
  (∀ s t : State, startupSound s → creditSound s → step s = .next t → startupSound t ∧ creditSound t)
  ∧ (∀ s t : State, meritSound s → step s = .next t → meritSound t)

/-- R25: no step, whatever peaks an update reports, takes the path list past 8 entries, out of strictly ascending delay order,
to a spacing below 5 ES, or to a field outside its range. -/
def Obligations.StepKeepsPathListSpaced : Prop :=
  ∀ s t : State, pathsSound s.wu.paths → step s = .next t → pathsSound t.wu.paths

/-- R116: no step takes the peer view out of ascending address order, gives it two entries of one address, or puts the
station's own address into it; so it never holds more than 15 entries. -/
def Obligations.StepKeepsPeerViewOrdered : Prop :=
  (∀ s t : State, peersSound s → step s = .next t → peersSound t) ∧ ∀ s : State, peersSound s → s.ou.peers.length ≤ 15

/-- R91, R99, R112: whatever command comes, the station drives the line only while SILENCE is released and no address clash
hold stands, and a PAYLOAD only while its role is OWNER. -/
def Obligations.StepKeepsLineDiscipline : Prop :=
  ∀ s t : State, lineSound s → step s = .next t → lineSound t

/-- R37, R38, R39: the applied window position returns to 0 only at reset and on entry into SYMBOL (R39). Otherwise it changes
only at a symbol boundary, taken by SYMBOL_BOUNDARY or first by a command that comes after it, in TRACK, and then by at most
the slew, or by a jump at a frame boundary, which records WINDOW_JUMP. -/
def Obligations.AppliedPositionMovesBySlewOrJump : Prop :=
  ∀ (c : Instr) (s t : State), startupSound s → windowSound s → exec c s = .next t →
    windowSound t ∧ (t.wu.applied = s.wu.applied
      ∨ (t.wu.applied = 0 ∧ (c = .reset ∨ (s.gau.acq ≠ .symbol ∧ t.gau.acq = .symbol)))
      ∨ (((∃ b, c = .symbolBoundary b) ∨ (∃ d, c = .sample d) ∨ (∃ m, c = .merMeasurement m true) ∨ c = .syncFound true)
        ∧ s.gau.acq = .track ∧ boundaryDue s.wu = true
        ∧ ((t.wu.applied - s.wu.applied).natAbs ≤ s.cfg.slew
          ∨ (63 ≤ s.wu.symbolIndex ∧ t.gau.causes.windowJump = true))))

/-- R17, R18: a recovery cause leaves the recovery cause set only when a STATUS frame that carried it completes transmission,
or at reset. -/
def Obligations.CausesLeaveOnlyWhenReported : Prop :=
  ∀ (k : Cause) (c : Instr) (s t : State), exec c s = .next t → causePresent k s.gau.causes = true →
    causePresent k t.gau.causes = false →
    c = .reset ∨ (c = .frameSent ∧ causePresent k s.gau.carried = true ∧ ∃ f, s.ri.tx = .transmitting (.status f))

/-- R189: every step leaves LAMP's base pattern as the first row of R189 that stands gives it. R190: a command that leaves
another pattern than it found starts that pattern's cycle; one that starts no cycle leaves the pattern as it stood. (The number
of cycles started is the model's own count: assumption log 21.) -/
def Obligations.StepKeepsLampPattern : Prop :=
  (∀ s t : State, s.iu.pattern = basePattern s → step s = .next t → t.iu.pattern = basePattern t)
  ∧ ∀ (c : Instr) (s t : State), c ≠ .reset → exec c s = .next t →
    s.iu.cycleStarts ≤ t.iu.cycleStarts ∧ (t.iu.cycleStarts = s.iu.cycleStarts → t.iu.pattern = s.iu.pattern)

/-- What a command leaves alone while nothing waits: but for RESET, a command changes only the blocks `blocksOf` gives it,
never the queue, the SILENCE level only at the SILENCE commands, and RESET's level only at RESET_END. -/
def Obligations.CommandsLeaveOtherBlocks : Prop :=
  ∀ (c : Instr) (s t : State), startupSound s → s.waiting = nothingWaits → c ≠ .reset → exec c s = .next t →
    t.pending = s.pending ∧ (∀ b, b ∉ blocksOf c → sameBlock s t b)
      ∧ (c ≠ .silenceAssert → c ≠ .silenceRelease → t.silence = s.silence)
      ∧ ((∀ straps, c ≠ .resetEnd straps) → t.resetLow = s.resetLow)
end

