-- ==== Sys2Proof/Laws/State.lean ====
section
/-! SUPPORT. Laws/State.lean: what each named update of the state leaves as it stands, every lemma true by rfl, and what the
updates put into the fields they change. -/

namespace Sys2Proof.Machine

/-! ## Fields an update leaves as they stand -/

@[simp] theorem requestStatus_frame (s : State) :
    (requestStatus s).pending = s.pending ∧ (requestStatus s).waiting = s.waiting ∧
    (requestStatus s).freeCount = s.freeCount ∧
    (requestStatus s).resetLow = s.resetLow ∧ (requestStatus s).silence = s.silence ∧
    (requestStatus s).loader = s.loader ∧ (requestStatus s).cfg = s.cfg ∧ (requestStatus s).gau = s.gau ∧
    (requestStatus s).ib = s.ib ∧ (requestStatus s).wu = s.wu ∧ (requestStatus s).pru = s.pru ∧
    (requestStatus s).services = s.services ∧ (requestStatus s).ou = s.ou ∧ (requestStatus s).hbu = s.hbu ∧
    (requestStatus s).sau = s.sau ∧ (requestStatus s).iu = s.iu := by
  exact ⟨rfl, rfl, rfl, rfl, rfl, rfl, rfl, rfl, rfl, rfl, rfl, rfl, rfl, rfl, rfl, rfl⟩

@[simp] theorem requestYield_frame (a : Option Address) (r : YieldReason) (s : State) :
    (requestYield a r s).pending = s.pending ∧ (requestYield a r s).waiting = s.waiting ∧
    (requestYield a r s).freeCount = s.freeCount ∧
    (requestYield a r s).resetLow = s.resetLow ∧ (requestYield a r s).silence = s.silence ∧
    (requestYield a r s).loader = s.loader ∧ (requestYield a r s).cfg = s.cfg ∧ (requestYield a r s).gau = s.gau ∧
    (requestYield a r s).ib = s.ib ∧ (requestYield a r s).wu = s.wu ∧ (requestYield a r s).pru = s.pru ∧
    (requestYield a r s).services = s.services ∧ (requestYield a r s).ou = s.ou ∧
    (requestYield a r s).hbu = s.hbu ∧ (requestYield a r s).sau = s.sau ∧ (requestYield a r s).iu = s.iu := by
  exact ⟨rfl, rfl, rfl, rfl, rfl, rfl, rfl, rfl, rfl, rfl, rfl, rfl, rfl, rfl, rfl, rfl⟩

@[simp] theorem requestTake_frame (m : Nat) (g : Option Signature) (s : State) :
    (requestTake m g s).pending = s.pending ∧ (requestTake m g s).waiting = s.waiting ∧
    (requestTake m g s).freeCount = s.freeCount ∧
    (requestTake m g s).resetLow = s.resetLow ∧ (requestTake m g s).silence = s.silence ∧
    (requestTake m g s).loader = s.loader ∧ (requestTake m g s).cfg = s.cfg ∧ (requestTake m g s).gau = s.gau ∧
    (requestTake m g s).ib = s.ib ∧ (requestTake m g s).wu = s.wu ∧ (requestTake m g s).pru = s.pru ∧
    (requestTake m g s).services = s.services ∧ (requestTake m g s).ou = s.ou ∧ (requestTake m g s).hbu = s.hbu ∧
    (requestTake m g s).sau = s.sau ∧ (requestTake m g s).iu = s.iu := by
  exact ⟨rfl, rfl, rfl, rfl, rfl, rfl, rfl, rfl, rfl, rfl, rfl, rfl, rfl, rfl, rfl, rfl⟩

@[simp] theorem withdrawTake_frame (s : State) :
    (withdrawTake s).pending = s.pending ∧ (withdrawTake s).waiting = s.waiting ∧
    (withdrawTake s).freeCount = s.freeCount ∧
    (withdrawTake s).resetLow = s.resetLow ∧ (withdrawTake s).silence = s.silence ∧
    (withdrawTake s).loader = s.loader ∧ (withdrawTake s).cfg = s.cfg ∧ (withdrawTake s).gau = s.gau ∧
    (withdrawTake s).ib = s.ib ∧ (withdrawTake s).wu = s.wu ∧ (withdrawTake s).pru = s.pru ∧
    (withdrawTake s).services = s.services ∧ (withdrawTake s).ou = s.ou ∧ (withdrawTake s).hbu = s.hbu ∧
    (withdrawTake s).sau = s.sau ∧ (withdrawTake s).iu = s.iu := by
  exact ⟨rfl, rfl, rfl, rfl, rfl, rfl, rfl, rfl, rfl, rfl, rfl, rfl, rfl, rfl, rfl, rfl⟩

@[simp] theorem emptySlots_frame (s : State) :
    (emptySlots s).pending = s.pending ∧ (emptySlots s).waiting = s.waiting ∧ (emptySlots s).freeCount = s.freeCount ∧
    (emptySlots s).resetLow = s.resetLow ∧ (emptySlots s).silence = s.silence ∧ (emptySlots s).loader = s.loader ∧
    (emptySlots s).cfg = s.cfg ∧ (emptySlots s).gau = s.gau ∧ (emptySlots s).ib = s.ib ∧ (emptySlots s).wu = s.wu ∧
    (emptySlots s).pru = s.pru ∧ (emptySlots s).services = s.services ∧ (emptySlots s).ou = s.ou ∧
    (emptySlots s).hbu = s.hbu ∧ (emptySlots s).sau = s.sau ∧ (emptySlots s).iu = s.iu := by
  exact ⟨rfl, rfl, rfl, rfl, rfl, rfl, rfl, rfl, rfl, rfl, rfl, rfl, rfl, rfl, rfl, rfl⟩

@[simp] theorem transmit_frame (f : Frame) (s : State) :
    (transmit f s).pending = s.pending ∧ (transmit f s).waiting = s.waiting ∧ (transmit f s).freeCount = s.freeCount ∧
    (transmit f s).resetLow = s.resetLow ∧ (transmit f s).silence = s.silence ∧ (transmit f s).loader = s.loader ∧
    (transmit f s).cfg = s.cfg ∧ (transmit f s).gau = s.gau ∧ (transmit f s).ib = s.ib ∧ (transmit f s).wu = s.wu ∧
    (transmit f s).pru = s.pru ∧ (transmit f s).services = s.services ∧ (transmit f s).ou = s.ou ∧
    (transmit f s).hbu = s.hbu ∧ (transmit f s).sau = s.sau ∧ (transmit f s).iu = s.iu := by
  exact ⟨rfl, rfl, rfl, rfl, rfl, rfl, rfl, rfl, rfl, rfl, rfl, rfl, rfl, rfl, rfl, rfl⟩

@[simp] theorem stopDriving_frame (s : State) :
    (stopDriving s).pending = s.pending ∧ (stopDriving s).waiting = s.waiting ∧
    (stopDriving s).freeCount = s.freeCount ∧
    (stopDriving s).resetLow = s.resetLow ∧ (stopDriving s).silence = s.silence ∧
    (stopDriving s).loader = s.loader ∧ (stopDriving s).cfg = s.cfg ∧ (stopDriving s).gau = s.gau ∧
    (stopDriving s).ib = s.ib ∧ (stopDriving s).wu = s.wu ∧ (stopDriving s).pru = s.pru ∧
    (stopDriving s).services = s.services ∧ (stopDriving s).ou = s.ou ∧ (stopDriving s).hbu = s.hbu ∧
    (stopDriving s).sau = s.sau ∧ (stopDriving s).iu = s.iu := by
  exact ⟨rfl, rfl, rfl, rfl, rfl, rfl, rfl, rfl, rfl, rfl, rfl, rfl, rfl, rfl, rfl, rfl⟩

@[simp] theorem setView_frame (v : BusView) (s : State) :
    (setView v s).pending = s.pending ∧ (setView v s).waiting = s.waiting ∧ (setView v s).freeCount = s.freeCount ∧
    (setView v s).resetLow = s.resetLow ∧ (setView v s).silence = s.silence ∧ (setView v s).loader = s.loader ∧
    (setView v s).cfg = s.cfg ∧ (setView v s).gau = s.gau ∧ (setView v s).ib = s.ib ∧ (setView v s).wu = s.wu ∧
    (setView v s).pru = s.pru ∧ (setView v s).services = s.services ∧ (setView v s).ou = s.ou ∧
    (setView v s).hbu = s.hbu ∧ (setView v s).sau = s.sau ∧ (setView v s).iu = s.iu := by
  exact ⟨rfl, rfl, rfl, rfl, rfl, rfl, rfl, rfl, rfl, rfl, rfl, rfl, rfl, rfl, rfl, rfl⟩

@[simp] theorem countReceiveError_frame (s : State) :
    (countReceiveError s).pending = s.pending ∧ (countReceiveError s).waiting = s.waiting ∧
    (countReceiveError s).freeCount = s.freeCount ∧
    (countReceiveError s).resetLow = s.resetLow ∧ (countReceiveError s).silence = s.silence ∧
    (countReceiveError s).loader = s.loader ∧ (countReceiveError s).cfg = s.cfg ∧
    (countReceiveError s).gau = s.gau ∧ (countReceiveError s).ib = s.ib ∧ (countReceiveError s).wu = s.wu ∧
    (countReceiveError s).pru = s.pru ∧ (countReceiveError s).services = s.services ∧
    (countReceiveError s).ou = s.ou ∧ (countReceiveError s).hbu = s.hbu ∧ (countReceiveError s).sau = s.sau ∧
    (countReceiveError s).iu = s.iu := by
  exact ⟨rfl, rfl, rfl, rfl, rfl, rfl, rfl, rfl, rfl, rfl, rfl, rfl, rfl, rfl, rfl, rfl⟩

@[simp] theorem carryReports_frame (s : State) :
    (carryReports s).pending = s.pending ∧ (carryReports s).waiting = s.waiting ∧
    (carryReports s).freeCount = s.freeCount ∧
    (carryReports s).resetLow = s.resetLow ∧ (carryReports s).silence = s.silence ∧
    (carryReports s).loader = s.loader ∧ (carryReports s).cfg = s.cfg ∧ (carryReports s).gau = s.gau ∧
    (carryReports s).ib = s.ib ∧ (carryReports s).wu = s.wu ∧ (carryReports s).pru = s.pru ∧
    (carryReports s).services = s.services ∧ (carryReports s).ou = s.ou ∧ (carryReports s).hbu = s.hbu ∧
    (carryReports s).sau = s.sau ∧ (carryReports s).iu = s.iu := by
  exact ⟨rfl, rfl, rfl, rfl, rfl, rfl, rfl, rfl, rfl, rfl, rfl, rfl, rfl, rfl, rfl, rfl⟩

@[simp] theorem settleReports_frame (s : State) :
    (settleReports s).pending = s.pending ∧ (settleReports s).waiting = s.waiting ∧
    (settleReports s).freeCount = s.freeCount ∧
    (settleReports s).resetLow = s.resetLow ∧ (settleReports s).silence = s.silence ∧
    (settleReports s).loader = s.loader ∧ (settleReports s).cfg = s.cfg ∧ (settleReports s).gau = s.gau ∧
    (settleReports s).ib = s.ib ∧ (settleReports s).wu = s.wu ∧ (settleReports s).pru = s.pru ∧
    (settleReports s).services = s.services ∧ (settleReports s).ou = s.ou ∧ (settleReports s).hbu = s.hbu ∧
    (settleReports s).sau = s.sau ∧ (settleReports s).iu = s.iu := by
  exact ⟨rfl, rfl, rfl, rfl, rfl, rfl, rfl, rfl, rfl, rfl, rfl, rfl, rfl, rfl, rfl, rfl⟩

@[simp] theorem forgetReports_frame (s : State) :
    (forgetReports s).pending = s.pending ∧ (forgetReports s).waiting = s.waiting ∧
    (forgetReports s).freeCount = s.freeCount ∧
    (forgetReports s).resetLow = s.resetLow ∧ (forgetReports s).silence = s.silence ∧
    (forgetReports s).loader = s.loader ∧ (forgetReports s).cfg = s.cfg ∧ (forgetReports s).gau = s.gau ∧
    (forgetReports s).ib = s.ib ∧ (forgetReports s).wu = s.wu ∧ (forgetReports s).pru = s.pru ∧
    (forgetReports s).services = s.services ∧ (forgetReports s).ou = s.ou ∧ (forgetReports s).hbu = s.hbu ∧
    (forgetReports s).sau = s.sau ∧ (forgetReports s).iu = s.iu := by
  exact ⟨rfl, rfl, rfl, rfl, rfl, rfl, rfl, rfl, rfl, rfl, rfl, rfl, rfl, rfl, rfl, rfl⟩

@[simp] theorem recordCause_frame (c : Cause) (s : State) :
    (recordCause c s).pending = s.pending ∧ (recordCause c s).waiting = s.waiting ∧
    (recordCause c s).freeCount = s.freeCount ∧
    (recordCause c s).resetLow = s.resetLow ∧ (recordCause c s).silence = s.silence ∧
    (recordCause c s).loader = s.loader ∧ (recordCause c s).cfg = s.cfg ∧ (recordCause c s).ib = s.ib ∧
    (recordCause c s).wu = s.wu ∧ (recordCause c s).pru = s.pru ∧ (recordCause c s).services = s.services ∧
    (recordCause c s).ri = s.ri ∧ (recordCause c s).ou = s.ou ∧ (recordCause c s).hbu = s.hbu ∧
    (recordCause c s).sau = s.sau ∧ (recordCause c s).iu = s.iu := by
  exact ⟨rfl, rfl, rfl, rfl, rfl, rfl, rfl, rfl, rfl, rfl, rfl, rfl, rfl, rfl, rfl, rfl⟩

@[simp] theorem markCauses_frame (s : State) :
    (markCauses s).pending = s.pending ∧ (markCauses s).waiting = s.waiting ∧ (markCauses s).freeCount = s.freeCount ∧
    (markCauses s).resetLow = s.resetLow ∧ (markCauses s).silence = s.silence ∧ (markCauses s).loader = s.loader ∧
    (markCauses s).cfg = s.cfg ∧ (markCauses s).ib = s.ib ∧ (markCauses s).wu = s.wu ∧ (markCauses s).pru = s.pru ∧
    (markCauses s).services = s.services ∧ (markCauses s).ri = s.ri ∧ (markCauses s).ou = s.ou ∧
    (markCauses s).hbu = s.hbu ∧ (markCauses s).sau = s.sau ∧ (markCauses s).iu = s.iu := by
  exact ⟨rfl, rfl, rfl, rfl, rfl, rfl, rfl, rfl, rfl, rfl, rfl, rfl, rfl, rfl, rfl, rfl⟩

@[simp] theorem settleCauses_frame (s : State) :
    (settleCauses s).pending = s.pending ∧ (settleCauses s).waiting = s.waiting ∧
    (settleCauses s).freeCount = s.freeCount ∧
    (settleCauses s).resetLow = s.resetLow ∧ (settleCauses s).silence = s.silence ∧
    (settleCauses s).loader = s.loader ∧ (settleCauses s).cfg = s.cfg ∧ (settleCauses s).ib = s.ib ∧
    (settleCauses s).wu = s.wu ∧ (settleCauses s).pru = s.pru ∧ (settleCauses s).services = s.services ∧
    (settleCauses s).ri = s.ri ∧ (settleCauses s).ou = s.ou ∧ (settleCauses s).hbu = s.hbu ∧
    (settleCauses s).sau = s.sau ∧ (settleCauses s).iu = s.iu := by
  exact ⟨rfl, rfl, rfl, rfl, rfl, rfl, rfl, rfl, rfl, rfl, rfl, rfl, rfl, rfl, rfl, rfl⟩

@[simp] theorem unmarkCauses_frame (s : State) :
    (unmarkCauses s).pending = s.pending ∧ (unmarkCauses s).waiting = s.waiting ∧
    (unmarkCauses s).freeCount = s.freeCount ∧
    (unmarkCauses s).resetLow = s.resetLow ∧ (unmarkCauses s).silence = s.silence ∧
    (unmarkCauses s).loader = s.loader ∧ (unmarkCauses s).cfg = s.cfg ∧ (unmarkCauses s).ib = s.ib ∧
    (unmarkCauses s).wu = s.wu ∧ (unmarkCauses s).pru = s.pru ∧ (unmarkCauses s).services = s.services ∧
    (unmarkCauses s).ri = s.ri ∧ (unmarkCauses s).ou = s.ou ∧ (unmarkCauses s).hbu = s.hbu ∧
    (unmarkCauses s).sau = s.sau ∧ (unmarkCauses s).iu = s.iu := by
  exact ⟨rfl, rfl, rfl, rfl, rfl, rfl, rfl, rfl, rfl, rfl, rfl, rfl, rfl, rfl, rfl, rfl⟩

@[simp] theorem setRole_frame (r : Role) (s : State) :
    (setRole r s).pending = s.pending ∧ (setRole r s).waiting = s.waiting ∧ (setRole r s).freeCount = s.freeCount ∧
    (setRole r s).resetLow = s.resetLow ∧ (setRole r s).silence = s.silence ∧ (setRole r s).loader = s.loader ∧
    (setRole r s).cfg = s.cfg ∧ (setRole r s).gau = s.gau ∧ (setRole r s).ib = s.ib ∧ (setRole r s).wu = s.wu ∧
    (setRole r s).pru = s.pru ∧ (setRole r s).services = s.services ∧ (setRole r s).ri = s.ri ∧
    (setRole r s).hbu = s.hbu ∧ (setRole r s).sau = s.sau ∧ (setRole r s).iu = s.iu := by
  exact ⟨rfl, rfl, rfl, rfl, rfl, rfl, rfl, rfl, rfl, rfl, rfl, rfl, rfl, rfl, rfl, rfl⟩

@[simp] theorem stopHandover_frame (s : State) :
    (stopHandover s).pending = s.pending ∧ (stopHandover s).waiting = s.waiting ∧
    (stopHandover s).freeCount = s.freeCount ∧
    (stopHandover s).resetLow = s.resetLow ∧ (stopHandover s).silence = s.silence ∧
    (stopHandover s).loader = s.loader ∧ (stopHandover s).cfg = s.cfg ∧ (stopHandover s).gau = s.gau ∧
    (stopHandover s).ib = s.ib ∧ (stopHandover s).wu = s.wu ∧ (stopHandover s).pru = s.pru ∧
    (stopHandover s).services = s.services ∧ (stopHandover s).ri = s.ri ∧ (stopHandover s).hbu = s.hbu ∧
    (stopHandover s).sau = s.sau ∧ (stopHandover s).iu = s.iu := by
  exact ⟨rfl, rfl, rfl, rfl, rfl, rfl, rfl, rfl, rfl, rfl, rfl, rfl, rfl, rfl, rfl, rfl⟩

@[simp] theorem startHandover_frame (s : State) :
    (startHandover s).pending = s.pending ∧ (startHandover s).waiting = s.waiting ∧
    (startHandover s).freeCount = s.freeCount ∧
    (startHandover s).resetLow = s.resetLow ∧ (startHandover s).silence = s.silence ∧
    (startHandover s).loader = s.loader ∧ (startHandover s).cfg = s.cfg ∧ (startHandover s).gau = s.gau ∧
    (startHandover s).ib = s.ib ∧ (startHandover s).wu = s.wu ∧ (startHandover s).pru = s.pru ∧
    (startHandover s).services = s.services ∧ (startHandover s).ri = s.ri ∧ (startHandover s).hbu = s.hbu ∧
    (startHandover s).sau = s.sau ∧ (startHandover s).iu = s.iu := by
  exact ⟨rfl, rfl, rfl, rfl, rfl, rfl, rfl, rfl, rfl, rfl, rfl, rfl, rfl, rfl, rfl, rfl⟩

@[simp] theorem clearChallenge_frame (s : State) :
    (clearChallenge s).pending = s.pending ∧ (clearChallenge s).waiting = s.waiting ∧
    (clearChallenge s).freeCount = s.freeCount ∧
    (clearChallenge s).resetLow = s.resetLow ∧ (clearChallenge s).silence = s.silence ∧
    (clearChallenge s).loader = s.loader ∧ (clearChallenge s).cfg = s.cfg ∧ (clearChallenge s).gau = s.gau ∧
    (clearChallenge s).ib = s.ib ∧ (clearChallenge s).wu = s.wu ∧ (clearChallenge s).pru = s.pru ∧
    (clearChallenge s).services = s.services ∧ (clearChallenge s).ri = s.ri ∧ (clearChallenge s).hbu = s.hbu ∧
    (clearChallenge s).sau = s.sau ∧ (clearChallenge s).iu = s.iu := by
  exact ⟨rfl, rfl, rfl, rfl, rfl, rfl, rfl, rfl, rfl, rfl, rfl, rfl, rfl, rfl, rfl, rfl⟩

@[simp] theorem ageView_frame (s : State) :
    (ageView s).pending = s.pending ∧ (ageView s).waiting = s.waiting ∧
    (ageView s).freeCount = s.freeCount ∧ (ageView s).resetLow = s.resetLow ∧
    (ageView s).silence = s.silence ∧ (ageView s).loader = s.loader ∧ (ageView s).cfg = s.cfg ∧
    (ageView s).gau = s.gau ∧ (ageView s).ib = s.ib ∧ (ageView s).wu = s.wu ∧ (ageView s).pru = s.pru ∧
    (ageView s).services = s.services ∧ (ageView s).ri = s.ri ∧ (ageView s).hbu = s.hbu ∧ (ageView s).sau = s.sau ∧
    (ageView s).iu = s.iu := by
  exact ⟨rfl, rfl, rfl, rfl, rfl, rfl, rfl, rfl, rfl, rfl, rfl, rfl, rfl, rfl, rfl, rfl⟩

@[simp] theorem recordMark_frame (s : State) :
    (recordMark s).pending = s.pending ∧ (recordMark s).waiting = s.waiting ∧ (recordMark s).freeCount = s.freeCount ∧
    (recordMark s).resetLow = s.resetLow ∧ (recordMark s).silence = s.silence ∧ (recordMark s).loader = s.loader ∧
    (recordMark s).cfg = s.cfg ∧ (recordMark s).gau = s.gau ∧ (recordMark s).ib = s.ib ∧ (recordMark s).wu = s.wu ∧
    (recordMark s).pru = s.pru ∧ (recordMark s).services = s.services ∧ (recordMark s).ri = s.ri ∧
    (recordMark s).hbu = s.hbu ∧ (recordMark s).sau = s.sau ∧ (recordMark s).iu = s.iu := by
  exact ⟨rfl, rfl, rfl, rfl, rfl, rfl, rfl, rfl, rfl, rfl, rfl, rfl, rfl, rfl, rfl, rfl⟩

@[simp] theorem mapPeers_frame (f : List Peer → List Peer) (s : State) :
    (mapPeers f s).pending = s.pending ∧ (mapPeers f s).waiting = s.waiting ∧ (mapPeers f s).freeCount = s.freeCount ∧
    (mapPeers f s).resetLow = s.resetLow ∧ (mapPeers f s).silence = s.silence ∧ (mapPeers f s).loader = s.loader ∧
    (mapPeers f s).cfg = s.cfg ∧ (mapPeers f s).gau = s.gau ∧ (mapPeers f s).ib = s.ib ∧ (mapPeers f s).wu = s.wu ∧
    (mapPeers f s).pru = s.pru ∧ (mapPeers f s).services = s.services ∧ (mapPeers f s).ri = s.ri ∧
    (mapPeers f s).hbu = s.hbu ∧ (mapPeers f s).sau = s.sau ∧ (mapPeers f s).iu = s.iu := by
  exact ⟨rfl, rfl, rfl, rfl, rfl, rfl, rfl, rfl, rfl, rfl, rfl, rfl, rfl, rfl, rfl, rfl⟩

@[simp] theorem clearAdmission_frame (s : State) :
    (clearAdmission s).pending = s.pending ∧ (clearAdmission s).waiting = s.waiting ∧
    (clearAdmission s).freeCount = s.freeCount ∧
    (clearAdmission s).resetLow = s.resetLow ∧ (clearAdmission s).silence = s.silence ∧
    (clearAdmission s).loader = s.loader ∧ (clearAdmission s).cfg = s.cfg ∧ (clearAdmission s).gau = s.gau ∧
    (clearAdmission s).ib = s.ib ∧ (clearAdmission s).wu = s.wu ∧ (clearAdmission s).pru = s.pru ∧
    (clearAdmission s).services = s.services ∧ (clearAdmission s).ri = s.ri ∧ (clearAdmission s).ou = s.ou ∧
    (clearAdmission s).hbu = s.hbu ∧ (clearAdmission s).iu = s.iu := by
  exact ⟨rfl, rfl, rfl, rfl, rfl, rfl, rfl, rfl, rfl, rfl, rfl, rfl, rfl, rfl, rfl, rfl⟩

@[simp] theorem formDemand_frame (s : State) :
    (formDemand s).pending = s.pending ∧ (formDemand s).waiting = s.waiting ∧ (formDemand s).freeCount = s.freeCount ∧
    (formDemand s).resetLow = s.resetLow ∧ (formDemand s).silence = s.silence ∧ (formDemand s).loader = s.loader ∧
    (formDemand s).cfg = s.cfg ∧ (formDemand s).gau = s.gau ∧ (formDemand s).ib = s.ib ∧ (formDemand s).wu = s.wu ∧
    (formDemand s).pru = s.pru ∧ (formDemand s).services = s.services ∧ (formDemand s).ri = s.ri ∧
    (formDemand s).ou = s.ou ∧ (formDemand s).hbu = s.hbu ∧ (formDemand s).iu = s.iu := by
  exact ⟨rfl, rfl, rfl, rfl, rfl, rfl, rfl, rfl, rfl, rfl, rfl, rfl, rfl, rfl, rfl, rfl⟩

@[simp] theorem recomputeShare_frame (s : State) :
    (recomputeShare s).pending = s.pending ∧ (recomputeShare s).waiting = s.waiting ∧
    (recomputeShare s).freeCount = s.freeCount ∧
    (recomputeShare s).resetLow = s.resetLow ∧ (recomputeShare s).silence = s.silence ∧
    (recomputeShare s).loader = s.loader ∧ (recomputeShare s).cfg = s.cfg ∧ (recomputeShare s).gau = s.gau ∧
    (recomputeShare s).ib = s.ib ∧ (recomputeShare s).wu = s.wu ∧ (recomputeShare s).pru = s.pru ∧
    (recomputeShare s).services = s.services ∧ (recomputeShare s).ri = s.ri ∧ (recomputeShare s).ou = s.ou ∧
    (recomputeShare s).hbu = s.hbu ∧ (recomputeShare s).iu = s.iu := by
  exact ⟨rfl, rfl, rfl, rfl, rfl, rfl, rfl, rfl, rfl, rfl, rfl, rfl, rfl, rfl, rfl, rfl⟩

@[simp] theorem creditTick_frame (s : State) :
    (creditTick s).pending = s.pending ∧ (creditTick s).waiting = s.waiting ∧ (creditTick s).freeCount = s.freeCount ∧
    (creditTick s).resetLow = s.resetLow ∧ (creditTick s).silence = s.silence ∧ (creditTick s).loader = s.loader ∧
    (creditTick s).cfg = s.cfg ∧ (creditTick s).gau = s.gau ∧ (creditTick s).ib = s.ib ∧ (creditTick s).wu = s.wu ∧
    (creditTick s).pru = s.pru ∧ (creditTick s).services = s.services ∧ (creditTick s).ri = s.ri ∧
    (creditTick s).ou = s.ou ∧ (creditTick s).hbu = s.hbu ∧ (creditTick s).iu = s.iu := by
  exact ⟨rfl, rfl, rfl, rfl, rfl, rfl, rfl, rfl, rfl, rfl, rfl, rfl, rfl, rfl, rfl, rfl⟩

@[simp] theorem countOffered_frame (s : State) :
    (countOffered s).pending = s.pending ∧ (countOffered s).waiting = s.waiting ∧
    (countOffered s).freeCount = s.freeCount ∧
    (countOffered s).resetLow = s.resetLow ∧ (countOffered s).silence = s.silence ∧
    (countOffered s).loader = s.loader ∧ (countOffered s).cfg = s.cfg ∧ (countOffered s).gau = s.gau ∧
    (countOffered s).ib = s.ib ∧ (countOffered s).wu = s.wu ∧ (countOffered s).pru = s.pru ∧
    (countOffered s).services = s.services ∧ (countOffered s).ri = s.ri ∧ (countOffered s).ou = s.ou ∧
    (countOffered s).hbu = s.hbu ∧ (countOffered s).iu = s.iu := by
  exact ⟨rfl, rfl, rfl, rfl, rfl, rfl, rfl, rfl, rfl, rfl, rfl, rfl, rfl, rfl, rfl, rfl⟩

@[simp] theorem fetchTo_frame (g : FetchStage) (s : State) :
    (fetchTo g s).pending = s.pending ∧ (fetchTo g s).waiting = s.waiting ∧ (fetchTo g s).freeCount = s.freeCount ∧
    (fetchTo g s).resetLow = s.resetLow ∧ (fetchTo g s).silence = s.silence ∧ (fetchTo g s).cfg = s.cfg ∧
    (fetchTo g s).gau = s.gau ∧ (fetchTo g s).ib = s.ib ∧ (fetchTo g s).wu = s.wu ∧ (fetchTo g s).pru = s.pru ∧
    (fetchTo g s).services = s.services ∧ (fetchTo g s).ri = s.ri ∧ (fetchTo g s).ou = s.ou ∧
    (fetchTo g s).hbu = s.hbu ∧ (fetchTo g s).sau = s.sau ∧ (fetchTo g s).iu = s.iu := by
  exact ⟨rfl, rfl, rfl, rfl, rfl, rfl, rfl, rfl, rfl, rfl, rfl, rfl, rfl, rfl, rfl, rfl⟩

@[simp] theorem startFetch_frame (s : State) :
    (startFetch s).pending = s.pending ∧ (startFetch s).waiting = s.waiting ∧ (startFetch s).freeCount = s.freeCount ∧
    (startFetch s).resetLow = s.resetLow ∧ (startFetch s).silence = s.silence ∧ (startFetch s).cfg = s.cfg ∧
    (startFetch s).gau = s.gau ∧ (startFetch s).ib = s.ib ∧ (startFetch s).wu = s.wu ∧ (startFetch s).pru = s.pru ∧
    (startFetch s).services = s.services ∧ (startFetch s).ri = s.ri ∧ (startFetch s).ou = s.ou ∧
    (startFetch s).hbu = s.hbu ∧ (startFetch s).sau = s.sau ∧ (startFetch s).iu = s.iu := by
  exact ⟨rfl, rfl, rfl, rfl, rfl, rfl, rfl, rfl, rfl, rfl, rfl, rfl, rfl, rfl, rfl, rfl⟩

@[simp] theorem lineIdle_frame (s : State) :
    (lineIdle s).pending = s.pending ∧ (lineIdle s).waiting = s.waiting ∧ (lineIdle s).freeCount = s.freeCount ∧
    (lineIdle s).resetLow = s.resetLow ∧ (lineIdle s).silence = s.silence ∧ (lineIdle s).loader = s.loader ∧
    (lineIdle s).cfg = s.cfg ∧ (lineIdle s).gau = s.gau ∧ (lineIdle s).ib = s.ib ∧ (lineIdle s).wu = s.wu ∧
    (lineIdle s).pru = s.pru ∧ (lineIdle s).services = s.services ∧ (lineIdle s).ou = s.ou ∧
    (lineIdle s).hbu = s.hbu ∧ (lineIdle s).sau = s.sau ∧ (lineIdle s).iu = s.iu := by
  exact ⟨rfl, rfl, rfl, rfl, rfl, rfl, rfl, rfl, rfl, rfl, rfl, rfl, rfl, rfl, rfl, rfl⟩

/-! ## Fields an update changes -/

@[simp] theorem lineIdle_busView (s : State) : (lineIdle s).ri.busView = .idle := rfl
@[simp] theorem lineIdle_heardIdle (s : State) : (lineIdle s).ri.heardIdle = true := rfl
@[simp] theorem lineIdle_tx (s : State) : (lineIdle s).ri.tx = s.ri.tx := rfl
@[simp] theorem markBoundary_counters (wu : Window) :
    (markBoundary wu).symbolIndex = wu.symbolIndex ∧ (markBoundary wu).frameCounter = wu.frameCounter ∧
    (markBoundary wu).presetDue = wu.presetDue := ⟨rfl, rfl, rfl⟩
@[simp] theorem markBoundary_window (wu : Window) :
    (markBoundary wu).paths = wu.paths ∧ (markBoundary wu).erasedCount = wu.erasedCount ∧
    (markBoundary wu).applied = wu.applied ∧ (markBoundary wu).pendingPos = wu.pendingPos ∧
    (markBoundary wu).mark = wu.mark := ⟨rfl, rfl, rfl, rfl, rfl⟩

@[simp] theorem requestStatus_statusSlot (s : State) : (requestStatus s).ri.statusSlot = true := rfl
@[simp] theorem requestStatus_takeSlot (s : State) : (requestStatus s).ri.takeSlot = s.ri.takeSlot := rfl
@[simp] theorem requestStatus_yieldSlot (s : State) : (requestStatus s).ri.yieldSlot = s.ri.yieldSlot := rfl
@[simp] theorem requestStatus_tx (s : State) : (requestStatus s).ri.tx = s.ri.tx := rfl
@[simp] theorem requestStatus_busView (s : State) : (requestStatus s).ri.busView = s.ri.busView := rfl
@[simp] theorem requestStatus_clashHold (s : State) : (requestStatus s).ri.clashHold = s.ri.clashHold := rfl
@[simp] theorem requestStatus_queue (c : ServiceClass) (s : State) :
    queueOf c (requestStatus s).ri = queueOf c s.ri := by cases c <;> rfl
@[simp] theorem requestYield_tx (a : Option Address) (r : YieldReason) (s : State) :
    (requestYield a r s).ri.tx = s.ri.tx := rfl
@[simp] theorem requestYield_clashHold (a : Option Address) (r : YieldReason) (s : State) :
    (requestYield a r s).ri.clashHold = s.ri.clashHold := rfl
@[simp] theorem requestTake_tx (m : Nat) (g : Option Signature) (s : State) :
    (requestTake m g s).ri.tx = s.ri.tx := rfl
@[simp] theorem requestTake_clashHold (m : Nat) (g : Option Signature) (s : State) :
    (requestTake m g s).ri.clashHold = s.ri.clashHold := rfl
@[simp] theorem withdrawTake_takeSlot (s : State) : (withdrawTake s).ri.takeSlot = none := rfl
@[simp] theorem withdrawTake_clashHold (s : State) : (withdrawTake s).ri.clashHold = s.ri.clashHold := rfl
@[simp] theorem stopDriving_tx (s : State) : (stopDriving s).ri.tx = .silent := rfl
@[simp] theorem stopDriving_clashHold (s : State) : (stopDriving s).ri.clashHold = s.ri.clashHold := rfl
@[simp] theorem transmit_tx (f : Frame) (s : State) : (transmit f s).ri.tx = .transmitting f := rfl
@[simp] theorem transmit_clashHold (f : Frame) (s : State) : (transmit f s).ri.clashHold = s.ri.clashHold := rfl
@[simp] theorem setView_tx (v : BusView) (s : State) : (setView v s).ri.tx = s.ri.tx := rfl
@[simp] theorem setView_busView (v : BusView) (s : State) : (setView v s).ri.busView = v := rfl
@[simp] theorem setView_clashHold (v : BusView) (s : State) : (setView v s).ri.clashHold = s.ri.clashHold := rfl
@[simp] theorem recordCause_acq (c : Cause) (s : State) : (recordCause c s).gau.acq = s.gau.acq := rfl
@[simp] theorem markCauses_acq (s : State) : (markCauses s).gau.acq = s.gau.acq := rfl
@[simp] theorem settleCauses_acq (s : State) : (settleCauses s).gau.acq = s.gau.acq := rfl
@[simp] theorem unmarkCauses_acq (s : State) : (unmarkCauses s).gau.acq = s.gau.acq := rfl
@[simp] theorem markCauses_causes (s : State) : (markCauses s).gau.causes = s.gau.causes := rfl
@[simp] theorem unmarkCauses_causes (s : State) : (unmarkCauses s).gau.causes = s.gau.causes := rfl
@[simp] theorem setRole_role (r : Role) (s : State) : (setRole r s).ou.role = r := rfl
@[simp] theorem setRole_challengeCount (r : Role) (s : State) : (setRole r s).ou.challengeCount = 0 := rfl
@[simp] theorem setRole_peers (r : Role) (s : State) : (setRole r s).ou.peers = s.ou.peers := rfl
@[simp] theorem setRole_reportTimer (r : Role) (s : State) : (setRole r s).ou.reportTimer = s.ou.reportTimer := rfl
@[simp] theorem stopHandover_role (s : State) : (stopHandover s).ou.role = s.ou.role := rfl
@[simp] theorem stopHandover_peers (s : State) : (stopHandover s).ou.peers = s.ou.peers := rfl
@[simp] theorem stopHandover_handoverTimer (s : State) : (stopHandover s).ou.handoverTimer = none := rfl
@[simp] theorem startHandover_role (s : State) : (startHandover s).ou.role = s.ou.role := rfl
@[simp] theorem startHandover_peers (s : State) : (startHandover s).ou.peers = s.ou.peers := rfl
@[simp] theorem clearChallenge_role (s : State) : (clearChallenge s).ou.role = s.ou.role := rfl
@[simp] theorem clearChallenge_peers (s : State) : (clearChallenge s).ou.peers = s.ou.peers := rfl
@[simp] theorem recordMark_role (s : State) : (recordMark s).ou.role = s.ou.role := rfl
@[simp] theorem recordMark_peers (s : State) : (recordMark s).ou.peers = s.ou.peers := rfl
@[simp] theorem ageView_role (s : State) : (ageView s).ou.role = s.ou.role := rfl
@[simp] theorem mapPeers_role (f : List Peer → List Peer) (s : State) : (mapPeers f s).ou.role = s.ou.role := rfl
@[simp] theorem mapPeers_peers (f : List Peer → List Peer) (s : State) : (mapPeers f s).ou.peers = f s.ou.peers := rfl
@[simp] theorem clearAdmission_credit (s : State) : (clearAdmission s).sau.credit = 0 := rfl
@[simp] theorem clearAdmission_share (s : State) : (clearAdmission s).sau.share = 0 := rfl
@[simp] theorem formDemand_credit (s : State) : (formDemand s).sau.credit = s.sau.credit := rfl
@[simp] theorem recomputeShare_credit (s : State) : (recomputeShare s).sau.credit = s.sau.credit := rfl
@[simp] theorem countOffered_credit (s : State) : (countOffered s).sau.credit = s.sau.credit := rfl
@[simp] theorem fetchTo_state (g : FetchStage) (s : State) : (fetchTo g s).loader.state = s.loader.state := rfl
@[simp] theorem fetchTo_address (g : FetchStage) (s : State) : (fetchTo g s).loader.address = s.loader.address := rfl
@[simp] theorem startFetch_state (s : State) : (startFetch s).loader.state = s.loader.state := rfl
@[simp] theorem startFetch_address (s : State) : (startFetch s).loader.address = s.loader.address := rfl

end Sys2Proof.Machine
end

