-- ==== Sys2Proof/Laws/Frames.lean ====
section
/-! SUPPORT. Laws/Frames.lean: for each shared operation, the blocks it never touches. Later proofs cite these and do not unfold
the operation. -/

namespace Sys2Proof.Machine

@[simp] theorem countDrops_frame (c : ServiceClass) (n : Nat) (s : State) :
    (countDrops c n s).pending = s.pending ∧ (countDrops c n s).waiting = s.waiting ∧
    (countDrops c n s).freeCount = s.freeCount ∧
    (countDrops c n s).resetLow = s.resetLow ∧ (countDrops c n s).silence = s.silence ∧
    (countDrops c n s).loader = s.loader ∧ (countDrops c n s).cfg = s.cfg ∧ (countDrops c n s).gau = s.gau ∧
    (countDrops c n s).ib = s.ib ∧ (countDrops c n s).wu = s.wu ∧ (countDrops c n s).pru = s.pru ∧
    (countDrops c n s).services = s.services ∧ (countDrops c n s).ou = s.ou ∧ (countDrops c n s).hbu = s.hbu ∧
    (countDrops c n s).sau = s.sau ∧ (countDrops c n s).iu = s.iu := by
  cases c <;> simp [countDrops]

@[simp] theorem countDrop_frame (c : ServiceClass) (s : State) :
    (countDrop c s).pending = s.pending ∧ (countDrop c s).waiting = s.waiting ∧
    (countDrop c s).freeCount = s.freeCount ∧
    (countDrop c s).resetLow = s.resetLow ∧ (countDrop c s).silence = s.silence ∧
    (countDrop c s).loader = s.loader ∧ (countDrop c s).cfg = s.cfg ∧ (countDrop c s).gau = s.gau ∧
    (countDrop c s).ib = s.ib ∧ (countDrop c s).wu = s.wu ∧ (countDrop c s).pru = s.pru ∧
    (countDrop c s).services = s.services ∧ (countDrop c s).ou = s.ou ∧ (countDrop c s).hbu = s.hbu ∧
    (countDrop c s).sau = s.sau ∧ (countDrop c s).iu = s.iu := by
  simp [countDrop]

@[simp] theorem refreshLamp_frame (s : State) :
    (refreshLamp s).pending = s.pending ∧ (refreshLamp s).waiting = s.waiting ∧
    (refreshLamp s).freeCount = s.freeCount ∧
    (refreshLamp s).resetLow = s.resetLow ∧ (refreshLamp s).silence = s.silence ∧
    (refreshLamp s).loader = s.loader ∧ (refreshLamp s).cfg = s.cfg ∧ (refreshLamp s).gau = s.gau ∧
    (refreshLamp s).ib = s.ib ∧ (refreshLamp s).wu = s.wu ∧ (refreshLamp s).pru = s.pru ∧
    (refreshLamp s).services = s.services ∧ (refreshLamp s).ri = s.ri ∧ (refreshLamp s).ou = s.ou ∧
    (refreshLamp s).hbu = s.hbu ∧ (refreshLamp s).sau = s.sau := by
  unfold refreshLamp; split <;> simp

@[simp] theorem startFlash_frame (s : State) :
    (startFlash s).pending = s.pending ∧ (startFlash s).waiting = s.waiting ∧ (startFlash s).freeCount = s.freeCount ∧
    (startFlash s).resetLow = s.resetLow ∧ (startFlash s).silence = s.silence ∧ (startFlash s).loader = s.loader ∧
    (startFlash s).cfg = s.cfg ∧ (startFlash s).gau = s.gau ∧ (startFlash s).ib = s.ib ∧ (startFlash s).wu = s.wu ∧
    (startFlash s).pru = s.pru ∧ (startFlash s).services = s.services ∧ (startFlash s).ri = s.ri ∧
    (startFlash s).ou = s.ou ∧ (startFlash s).hbu = s.hbu ∧ (startFlash s).sau = s.sau := by
  unfold startFlash; split <;> simp

@[simp] theorem emptyQueue_frame (c : ServiceClass) (s : State) :
    (emptyQueue c s).pending = s.pending ∧ (emptyQueue c s).waiting = s.waiting ∧
    (emptyQueue c s).freeCount = s.freeCount ∧
    (emptyQueue c s).resetLow = s.resetLow ∧ (emptyQueue c s).silence = s.silence ∧
    (emptyQueue c s).loader = s.loader ∧ (emptyQueue c s).cfg = s.cfg ∧ (emptyQueue c s).gau = s.gau ∧
    (emptyQueue c s).ib = s.ib ∧ (emptyQueue c s).wu = s.wu ∧ (emptyQueue c s).pru = s.pru ∧
    (emptyQueue c s).services = s.services ∧ (emptyQueue c s).ou = s.ou ∧ (emptyQueue c s).hbu = s.hbu ∧
    (emptyQueue c s).sau = s.sau ∧ (emptyQueue c s).iu = s.iu := by
  simp [emptyQueue]

@[simp] theorem emptyQueues_frame (s : State) :
    (emptyQueues s).pending = s.pending ∧ (emptyQueues s).waiting = s.waiting ∧
    (emptyQueues s).freeCount = s.freeCount ∧
    (emptyQueues s).resetLow = s.resetLow ∧ (emptyQueues s).silence = s.silence ∧
    (emptyQueues s).loader = s.loader ∧ (emptyQueues s).cfg = s.cfg ∧ (emptyQueues s).gau = s.gau ∧
    (emptyQueues s).ib = s.ib ∧ (emptyQueues s).wu = s.wu ∧ (emptyQueues s).pru = s.pru ∧
    (emptyQueues s).services = s.services ∧ (emptyQueues s).ou = s.ou ∧ (emptyQueues s).hbu = s.hbu ∧
    (emptyQueues s).sau = s.sau ∧ (emptyQueues s).iu = s.iu := by
  simp [emptyQueues]

@[simp] theorem countRemoved_frame (l : List RingEntry) (s : State) :
    (countRemoved l s).pending = s.pending ∧ (countRemoved l s).waiting = s.waiting ∧
    (countRemoved l s).freeCount = s.freeCount ∧
    (countRemoved l s).resetLow = s.resetLow ∧ (countRemoved l s).silence = s.silence ∧
    (countRemoved l s).loader = s.loader ∧ (countRemoved l s).cfg = s.cfg ∧ (countRemoved l s).gau = s.gau ∧
    (countRemoved l s).ib = s.ib ∧ (countRemoved l s).wu = s.wu ∧ (countRemoved l s).pru = s.pru ∧
    (countRemoved l s).services = s.services ∧ (countRemoved l s).ou = s.ou ∧ (countRemoved l s).hbu = s.hbu ∧
    (countRemoved l s).sau = s.sau ∧ (countRemoved l s).iu = s.iu := by
  induction l generalizing s with
  | nil => simp [countRemoved]
  | cons e l ih => simpa [countRemoved] using ih (countDrop e.cls s)

@[simp] theorem expireRing_frame (b : Nat) (s : State) :
    (expireRing b s).pending = s.pending ∧ (expireRing b s).waiting = s.waiting ∧
    (expireRing b s).freeCount = s.freeCount ∧
    (expireRing b s).resetLow = s.resetLow ∧ (expireRing b s).silence = s.silence ∧
    (expireRing b s).loader = s.loader ∧ (expireRing b s).cfg = s.cfg ∧ (expireRing b s).gau = s.gau ∧
    (expireRing b s).ib = s.ib ∧ (expireRing b s).wu = s.wu ∧ (expireRing b s).pru = s.pru ∧
    (expireRing b s).services = s.services ∧ (expireRing b s).ou = s.ou ∧ (expireRing b s).sau = s.sau ∧
    (expireRing b s).iu = s.iu := by
  unfold expireRing; dsimp only; split <;> simp

@[simp] theorem placeInRing_frame (r : RingEntry) (s : State) :
    (placeInRing r s).pending = s.pending ∧ (placeInRing r s).waiting = s.waiting ∧
    (placeInRing r s).freeCount = s.freeCount ∧
    (placeInRing r s).resetLow = s.resetLow ∧ (placeInRing r s).silence = s.silence ∧
    (placeInRing r s).loader = s.loader ∧ (placeInRing r s).cfg = s.cfg ∧ (placeInRing r s).gau = s.gau ∧
    (placeInRing r s).ib = s.ib ∧ (placeInRing r s).wu = s.wu ∧ (placeInRing r s).pru = s.pru ∧
    (placeInRing r s).services = s.services ∧ (placeInRing r s).ou = s.ou ∧ (placeInRing r s).sau = s.sau ∧
    (placeInRing r s).iu = s.iu := by
  unfold placeInRing; dsimp only; split
  · split <;> simp
  · simp

@[simp] theorem appendRing_frame (r : RingEntry) (s : State) :
    (appendRing r s).pending = s.pending ∧ (appendRing r s).waiting = s.waiting ∧
    (appendRing r s).freeCount = s.freeCount ∧
    (appendRing r s).resetLow = s.resetLow ∧ (appendRing r s).silence = s.silence ∧
    (appendRing r s).loader = s.loader ∧ (appendRing r s).cfg = s.cfg ∧ (appendRing r s).gau = s.gau ∧
    (appendRing r s).ib = s.ib ∧ (appendRing r s).wu = s.wu ∧ (appendRing r s).pru = s.pru ∧
    (appendRing r s).services = s.services ∧ (appendRing r s).ou = s.ou ∧ (appendRing r s).sau = s.sau ∧
    (appendRing r s).iu = s.iu := by
  simp [appendRing]

@[simp] theorem goLive_frame (s : State) :
    (goLive s).pending = s.pending ∧ (goLive s).waiting = s.waiting ∧
    (goLive s).freeCount = s.freeCount ∧ (goLive s).resetLow = s.resetLow ∧
    (goLive s).silence = s.silence ∧ (goLive s).loader = s.loader ∧ (goLive s).cfg = s.cfg ∧
    (goLive s).gau = s.gau ∧ (goLive s).ib = s.ib ∧ (goLive s).wu = s.wu ∧ (goLive s).pru = s.pru ∧
    (goLive s).services = s.services ∧ (goLive s).ri = s.ri ∧ (goLive s).ou = s.ou ∧ (goLive s).sau = s.sau := by
  simp [goLive]

@[simp] theorem admit_frame (e : QueueEntry) (s : State) :
    (admitEntry e s).pending = s.pending ∧ (admitEntry e s).waiting = s.waiting ∧
    (admitEntry e s).freeCount = s.freeCount ∧ (admitEntry e s).resetLow = s.resetLow ∧
    (admitEntry e s).silence = s.silence ∧ (admitEntry e s).loader = s.loader ∧ (admitEntry e s).cfg = s.cfg ∧
    (admitEntry e s).gau = s.gau ∧ (admitEntry e s).ib = s.ib ∧ (admitEntry e s).wu = s.wu ∧ (admitEntry e s).pru = s.pru ∧
    (admitEntry e s).services = s.services ∧ (admitEntry e s).ou = s.ou ∧ (admitEntry e s).hbu = s.hbu ∧ (admitEntry e s).iu = s.iu := by
  simp [admitEntry]

@[simp] theorem offerRecord_frame (e : QueueEntry) (s : State) :
    (offerRecord e s).pending = s.pending ∧ (offerRecord e s).waiting = s.waiting ∧
    (offerRecord e s).freeCount = s.freeCount ∧
    (offerRecord e s).resetLow = s.resetLow ∧ (offerRecord e s).silence = s.silence ∧
    (offerRecord e s).loader = s.loader ∧ (offerRecord e s).cfg = s.cfg ∧ (offerRecord e s).gau = s.gau ∧
    (offerRecord e s).ib = s.ib ∧ (offerRecord e s).wu = s.wu ∧ (offerRecord e s).pru = s.pru ∧
    (offerRecord e s).services = s.services ∧ (offerRecord e s).ou = s.ou ∧ (offerRecord e s).hbu = s.hbu ∧
    (offerRecord e s).iu = s.iu := by
  unfold offerRecord; split
  · split <;> simp
  · simp

@[simp] theorem offerEntries_frame (n : Nat) (s : State) :
    (offerEntries n s).pending = s.pending ∧ (offerEntries n s).waiting = s.waiting ∧
    (offerEntries n s).freeCount = s.freeCount ∧
    (offerEntries n s).resetLow = s.resetLow ∧ (offerEntries n s).silence = s.silence ∧
    (offerEntries n s).loader = s.loader ∧ (offerEntries n s).cfg = s.cfg ∧ (offerEntries n s).gau = s.gau ∧
    (offerEntries n s).ib = s.ib ∧ (offerEntries n s).wu = s.wu ∧ (offerEntries n s).pru = s.pru ∧
    (offerEntries n s).services = s.services ∧ (offerEntries n s).ou = s.ou ∧ (offerEntries n s).iu = s.iu := by
  induction n generalizing s with
  | zero => simp [offerEntries]
  | succ n ih =>
    unfold offerEntries; split
    · simp
    · split <;> simp [ih]

@[simp] theorem drainOffer_frame (s : State) :
    (drainOffer s).pending = s.pending ∧ (drainOffer s).waiting = s.waiting ∧ (drainOffer s).freeCount = s.freeCount ∧
    (drainOffer s).resetLow = s.resetLow ∧ (drainOffer s).silence = s.silence ∧ (drainOffer s).loader = s.loader ∧
    (drainOffer s).cfg = s.cfg ∧ (drainOffer s).gau = s.gau ∧ (drainOffer s).ib = s.ib ∧ (drainOffer s).wu = s.wu ∧
    (drainOffer s).pru = s.pru ∧ (drainOffer s).services = s.services ∧ (drainOffer s).ou = s.ou := by
  unfold drainOffer; dsimp only; split <;> simp

@[simp] theorem standbyRecord_frame (r : RingEntry) (s : State) :
    (standbyRecord r s).pending = s.pending ∧ (standbyRecord r s).waiting = s.waiting ∧
    (standbyRecord r s).freeCount = s.freeCount ∧
    (standbyRecord r s).resetLow = s.resetLow ∧ (standbyRecord r s).silence = s.silence ∧
    (standbyRecord r s).loader = s.loader ∧ (standbyRecord r s).cfg = s.cfg ∧ (standbyRecord r s).gau = s.gau ∧
    (standbyRecord r s).ib = s.ib ∧ (standbyRecord r s).wu = s.wu ∧ (standbyRecord r s).pru = s.pru ∧
    (standbyRecord r s).services = s.services ∧ (standbyRecord r s).ou = s.ou ∧ (standbyRecord r s).sau = s.sau ∧
    (standbyRecord r s).iu = s.iu := by
  unfold standbyRecord; split
  · simp
  · split
    · simp
    · split <;> simp

@[simp] theorem catchUpGap_frame (r : RingEntry) (s : State) :
    (catchUpGap r s).pending = s.pending ∧ (catchUpGap r s).waiting = s.waiting ∧
    (catchUpGap r s).freeCount = s.freeCount ∧
    (catchUpGap r s).resetLow = s.resetLow ∧ (catchUpGap r s).silence = s.silence ∧
    (catchUpGap r s).loader = s.loader ∧ (catchUpGap r s).cfg = s.cfg ∧ (catchUpGap r s).gau = s.gau ∧
    (catchUpGap r s).ib = s.ib ∧ (catchUpGap r s).wu = s.wu ∧ (catchUpGap r s).pru = s.pru ∧
    (catchUpGap r s).services = s.services ∧ (catchUpGap r s).ou = s.ou := by
  simp [catchUpGap]

@[simp] theorem catchUpRecord_frame (r : RingEntry) (s : State) :
    (catchUpRecord r s).pending = s.pending ∧ (catchUpRecord r s).waiting = s.waiting ∧
    (catchUpRecord r s).freeCount = s.freeCount ∧
    (catchUpRecord r s).resetLow = s.resetLow ∧ (catchUpRecord r s).silence = s.silence ∧
    (catchUpRecord r s).loader = s.loader ∧ (catchUpRecord r s).cfg = s.cfg ∧ (catchUpRecord r s).gau = s.gau ∧
    (catchUpRecord r s).ib = s.ib ∧ (catchUpRecord r s).wu = s.wu ∧ (catchUpRecord r s).pru = s.pru ∧
    (catchUpRecord r s).services = s.services ∧ (catchUpRecord r s).ou = s.ou := by
  unfold catchUpRecord; dsimp only; split
  · simp
  · split
    · simp
    · split
      · split <;> simp
      · simp

@[simp] theorem drainRecord_frame (r : RingEntry) (s : State) :
    (drainRecord r s).pending = s.pending ∧ (drainRecord r s).waiting = s.waiting ∧
    (drainRecord r s).freeCount = s.freeCount ∧
    (drainRecord r s).resetLow = s.resetLow ∧ (drainRecord r s).silence = s.silence ∧
    (drainRecord r s).loader = s.loader ∧ (drainRecord r s).cfg = s.cfg ∧ (drainRecord r s).gau = s.gau ∧
    (drainRecord r s).ib = s.ib ∧ (drainRecord r s).wu = s.wu ∧ (drainRecord r s).pru = s.pru ∧
    (drainRecord r s).services = s.services ∧ (drainRecord r s).ou = s.ou := by
  unfold drainRecord; dsimp only; split <;> simp

@[simp] theorem takeRecord_frame (r : RingEntry) (s : State) :
    (takeRecord r s).pending = s.pending ∧ (takeRecord r s).waiting = s.waiting ∧
    (takeRecord r s).freeCount = s.freeCount ∧
    (takeRecord r s).resetLow = s.resetLow ∧ (takeRecord r s).silence = s.silence ∧
    (takeRecord r s).loader = s.loader ∧ (takeRecord r s).cfg = s.cfg ∧ (takeRecord r s).gau = s.gau ∧
    (takeRecord r s).ib = s.ib ∧ (takeRecord r s).wu = s.wu ∧ (takeRecord r s).pru = s.pru ∧
    (takeRecord r s).services = s.services ∧ (takeRecord r s).ou = s.ou := by
  unfold takeRecord; split <;> first | (split <;> simp) | simp

@[simp] theorem attempt_frame (s : State) :
    (attempt s).pending = s.pending ∧ (attempt s).waiting = s.waiting ∧
    (attempt s).freeCount = s.freeCount ∧ (attempt s).resetLow = s.resetLow ∧
    (attempt s).silence = s.silence ∧ (attempt s).loader = s.loader ∧ (attempt s).cfg = s.cfg ∧
    (attempt s).gau = s.gau ∧ (attempt s).ib = s.ib ∧ (attempt s).wu = s.wu ∧ (attempt s).pru = s.pru ∧
    (attempt s).services = s.services ∧ (attempt s).ou = s.ou ∧ (attempt s).hbu = s.hbu ∧ (attempt s).sau = s.sau ∧
    (attempt s).iu = s.iu := by
  unfold attempt; split
  · split <;> simp
  · simp

@[simp] theorem winStatus_frame (s : State) :
    (winStatus s).pending = s.pending ∧ (winStatus s).waiting = s.waiting ∧
    (winStatus s).resetLow = s.resetLow ∧ (winStatus s).silence = s.silence ∧
    (winStatus s).loader = s.loader ∧ (winStatus s).cfg = s.cfg ∧ (winStatus s).ib = s.ib ∧
    (winStatus s).wu = s.wu ∧ (winStatus s).pru = s.pru ∧ (winStatus s).services = s.services ∧
    (winStatus s).ou = s.ou ∧ (winStatus s).hbu = s.hbu ∧ (winStatus s).sau = s.sau ∧ (winStatus s).iu = s.iu := by
  simp [winStatus]

@[simp] theorem winFrame_frame (k : Selection) (s : State) :
    (winFrame k s).pending = s.pending ∧ (winFrame k s).waiting = s.waiting ∧ (winFrame k s).resetLow = s.resetLow ∧
    (winFrame k s).silence = s.silence ∧ (winFrame k s).loader = s.loader ∧ (winFrame k s).cfg = s.cfg ∧
    (winFrame k s).ib = s.ib ∧ (winFrame k s).wu = s.wu ∧ (winFrame k s).pru = s.pru ∧
    (winFrame k s).services = s.services ∧ (winFrame k s).ou = s.ou ∧ (winFrame k s).hbu = s.hbu ∧
    (winFrame k s).sau = s.sau ∧ (winFrame k s).iu = s.iu := by
  unfold winFrame; split <;> first | (split <;> simp) | simp

@[simp] theorem endTransmission_frame (s : State) :
    (endTransmission s).pending = s.pending ∧ (endTransmission s).waiting = s.waiting ∧
    (endTransmission s).freeCount = s.freeCount ∧
    (endTransmission s).resetLow = s.resetLow ∧ (endTransmission s).silence = s.silence ∧
    (endTransmission s).loader = s.loader ∧ (endTransmission s).cfg = s.cfg ∧ (endTransmission s).ib = s.ib ∧
    (endTransmission s).wu = s.wu ∧ (endTransmission s).pru = s.pru ∧ (endTransmission s).services = s.services ∧
    (endTransmission s).ou = s.ou ∧ (endTransmission s).hbu = s.hbu ∧ (endTransmission s).sau = s.sau ∧
    (endTransmission s).iu = s.iu := by
  unfold endTransmission; split <;> simp

@[simp] theorem abandonPayload_frame (s : State) :
    (abandonPayload s).pending = s.pending ∧ (abandonPayload s).waiting = s.waiting ∧
    (abandonPayload s).freeCount = s.freeCount ∧
    (abandonPayload s).resetLow = s.resetLow ∧ (abandonPayload s).silence = s.silence ∧
    (abandonPayload s).loader = s.loader ∧ (abandonPayload s).cfg = s.cfg ∧ (abandonPayload s).gau = s.gau ∧
    (abandonPayload s).ib = s.ib ∧ (abandonPayload s).wu = s.wu ∧ (abandonPayload s).pru = s.pru ∧
    (abandonPayload s).services = s.services ∧ (abandonPayload s).ou = s.ou ∧ (abandonPayload s).hbu = s.hbu ∧
    (abandonPayload s).sau = s.sau ∧ (abandonPayload s).iu = s.iu := by
  unfold abandonPayload; split <;> simp

@[simp] theorem riserLeavesOwner_frame (r : Role) (s : State) :
    (riserLeavesOwner r s).pending = s.pending ∧ (riserLeavesOwner r s).waiting = s.waiting ∧
    (riserLeavesOwner r s).freeCount = s.freeCount ∧
    (riserLeavesOwner r s).resetLow = s.resetLow ∧ (riserLeavesOwner r s).silence = s.silence ∧
    (riserLeavesOwner r s).loader = s.loader ∧ (riserLeavesOwner r s).cfg = s.cfg ∧
    (riserLeavesOwner r s).gau = s.gau ∧ (riserLeavesOwner r s).ib = s.ib ∧ (riserLeavesOwner r s).wu = s.wu ∧
    (riserLeavesOwner r s).pru = s.pru ∧ (riserLeavesOwner r s).services = s.services ∧
    (riserLeavesOwner r s).ou = s.ou ∧ (riserLeavesOwner r s).hbu = s.hbu ∧ (riserLeavesOwner r s).sau = s.sau ∧
    (riserLeavesOwner r s).iu = s.iu := by
  unfold riserLeavesOwner; dsimp only; split <;> simp

@[simp] theorem changeRole_frame (r : Role) (s : State) :
    (changeRole r s).pending = s.pending ∧ (changeRole r s).waiting = s.waiting ∧
    (changeRole r s).freeCount = s.freeCount ∧
    (changeRole r s).resetLow = s.resetLow ∧ (changeRole r s).silence = s.silence ∧
    (changeRole r s).loader = s.loader ∧ (changeRole r s).cfg = s.cfg ∧ (changeRole r s).gau = s.gau ∧
    (changeRole r s).ib = s.ib ∧ (changeRole r s).wu = s.wu ∧ (changeRole r s).pru = s.pru ∧
    (changeRole r s).services = s.services := by
  unfold changeRole; dsimp only; split <;> simp

@[simp] theorem enterOwner_frame (a : Option Signature) (s : State) :
    (enterOwner a s).pending = s.pending ∧ (enterOwner a s).waiting = s.waiting ∧
    (enterOwner a s).freeCount = s.freeCount ∧
    (enterOwner a s).resetLow = s.resetLow ∧ (enterOwner a s).silence = s.silence ∧
    (enterOwner a s).loader = s.loader ∧ (enterOwner a s).cfg = s.cfg ∧ (enterOwner a s).gau = s.gau ∧
    (enterOwner a s).ib = s.ib ∧ (enterOwner a s).wu = s.wu ∧ (enterOwner a s).pru = s.pru ∧
    (enterOwner a s).services = s.services := by
  unfold enterOwner; dsimp only; split <;> simp

@[simp] theorem yieldWith_frame (a : Option Address) (r : YieldReason) (s : State) :
    (yieldWith a r s).pending = s.pending ∧ (yieldWith a r s).waiting = s.waiting ∧
    (yieldWith a r s).freeCount = s.freeCount ∧
    (yieldWith a r s).resetLow = s.resetLow ∧ (yieldWith a r s).silence = s.silence ∧
    (yieldWith a r s).loader = s.loader ∧ (yieldWith a r s).cfg = s.cfg ∧ (yieldWith a r s).gau = s.gau ∧
    (yieldWith a r s).ib = s.ib ∧ (yieldWith a r s).wu = s.wu ∧ (yieldWith a r s).pru = s.pru ∧
    (yieldWith a r s).services = s.services := by
  simp [yieldWith]

@[simp] theorem endYield_frame (s : State) :
    (endYield s).pending = s.pending ∧ (endYield s).waiting = s.waiting ∧
    (endYield s).freeCount = s.freeCount ∧ (endYield s).resetLow = s.resetLow ∧
    (endYield s).silence = s.silence ∧ (endYield s).loader = s.loader ∧ (endYield s).cfg = s.cfg ∧
    (endYield s).gau = s.gau ∧ (endYield s).ib = s.ib ∧ (endYield s).wu = s.wu ∧ (endYield s).pru = s.pru ∧
    (endYield s).services = s.services := by
  unfold endYield; split <;> simp

@[simp] theorem fallRole_frame (s : State) :
    (fallRole s).pending = s.pending ∧ (fallRole s).waiting = s.waiting ∧
    (fallRole s).freeCount = s.freeCount ∧ (fallRole s).resetLow = s.resetLow ∧
    (fallRole s).silence = s.silence ∧ (fallRole s).loader = s.loader ∧ (fallRole s).cfg = s.cfg ∧
    (fallRole s).gau = s.gau ∧ (fallRole s).ib = s.ib ∧ (fallRole s).wu = s.wu ∧ (fallRole s).pru = s.pru ∧
    (fallRole s).services = s.services := by
  unfold fallRole; split <;> simp

@[simp] theorem giveUpTake_frame (r : Role) (s : State) :
    (giveUpTake r s).pending = s.pending ∧ (giveUpTake r s).waiting = s.waiting ∧
    (giveUpTake r s).freeCount = s.freeCount ∧
    (giveUpTake r s).resetLow = s.resetLow ∧ (giveUpTake r s).silence = s.silence ∧
    (giveUpTake r s).loader = s.loader ∧ (giveUpTake r s).cfg = s.cfg ∧ (giveUpTake r s).gau = s.gau ∧
    (giveUpTake r s).ib = s.ib ∧ (giveUpTake r s).wu = s.wu ∧ (giveUpTake r s).pru = s.pru ∧
    (giveUpTake r s).services = s.services := by
  simp [giveUpTake]

@[simp] theorem addressClash_frame (s : State) :
    (addressClash s).pending = s.pending ∧ (addressClash s).waiting = s.waiting ∧
    (addressClash s).freeCount = s.freeCount ∧
    (addressClash s).resetLow = s.resetLow ∧ (addressClash s).silence = s.silence ∧
    (addressClash s).loader = s.loader ∧ (addressClash s).cfg = s.cfg ∧ (addressClash s).ib = s.ib ∧
    (addressClash s).wu = s.wu ∧ (addressClash s).pru = s.pru ∧ (addressClash s).services = s.services := by
  simp [addressClash]

@[simp] theorem roleAtAcqChange_frame (n : AcqState) (s : State) :
    (roleAtAcqChange n s).pending = s.pending ∧ (roleAtAcqChange n s).waiting = s.waiting ∧
    (roleAtAcqChange n s).freeCount = s.freeCount ∧
    (roleAtAcqChange n s).resetLow = s.resetLow ∧ (roleAtAcqChange n s).silence = s.silence ∧
    (roleAtAcqChange n s).loader = s.loader ∧ (roleAtAcqChange n s).cfg = s.cfg ∧
    (roleAtAcqChange n s).gau = s.gau ∧ (roleAtAcqChange n s).ib = s.ib ∧ (roleAtAcqChange n s).wu = s.wu ∧
    (roleAtAcqChange n s).pru = s.pru ∧ (roleAtAcqChange n s).services = s.services := by
  unfold roleAtAcqChange; (repeat' split) <;> simp

@[simp] theorem challenge_frame (s : State) :
    (challenge s).pending = s.pending ∧ (challenge s).waiting = s.waiting ∧ (challenge s).freeCount = s.freeCount ∧
    (challenge s).resetLow = s.resetLow ∧ (challenge s).silence = s.silence ∧ (challenge s).loader = s.loader ∧
    (challenge s).cfg = s.cfg ∧ (challenge s).gau = s.gau ∧ (challenge s).ib = s.ib ∧ (challenge s).wu = s.wu ∧
    (challenge s).pru = s.pru ∧ (challenge s).services = s.services := by
  simp [challenge]

@[simp] theorem challengeTest_frame (s : State) :
    (challengeTest s).pending = s.pending ∧ (challengeTest s).waiting = s.waiting ∧
    (challengeTest s).freeCount = s.freeCount ∧
    (challengeTest s).resetLow = s.resetLow ∧ (challengeTest s).silence = s.silence ∧
    (challengeTest s).loader = s.loader ∧ (challengeTest s).cfg = s.cfg ∧ (challengeTest s).gau = s.gau ∧
    (challengeTest s).ib = s.ib ∧ (challengeTest s).wu = s.wu ∧ (challengeTest s).pru = s.pru ∧
    (challengeTest s).services = s.services := by
  unfold challengeTest; (repeat' split) <;> simp

@[simp] theorem standbyDecision_frame (s : State) :
    (standbyDecision s).pending = s.pending ∧ (standbyDecision s).waiting = s.waiting ∧
    (standbyDecision s).freeCount = s.freeCount ∧
    (standbyDecision s).resetLow = s.resetLow ∧ (standbyDecision s).silence = s.silence ∧
    (standbyDecision s).loader = s.loader ∧ (standbyDecision s).cfg = s.cfg ∧ (standbyDecision s).gau = s.gau ∧
    (standbyDecision s).ib = s.ib ∧ (standbyDecision s).wu = s.wu ∧ (standbyDecision s).pru = s.pru ∧
    (standbyDecision s).services = s.services := by
  unfold standbyDecision; split <;> simp

@[simp] theorem ownerDecision_frame (s : State) :
    (ownerDecision s).pending = s.pending ∧ (ownerDecision s).waiting = s.waiting ∧
    (ownerDecision s).freeCount = s.freeCount ∧
    (ownerDecision s).resetLow = s.resetLow ∧ (ownerDecision s).silence = s.silence ∧
    (ownerDecision s).loader = s.loader ∧ (ownerDecision s).cfg = s.cfg ∧ (ownerDecision s).gau = s.gau ∧
    (ownerDecision s).ib = s.ib ∧ (ownerDecision s).wu = s.wu ∧ (ownerDecision s).pru = s.pru ∧
    (ownerDecision s).services = s.services := by
  unfold ownerDecision; (repeat' split) <;> simp

@[simp] theorem periodicDecision_frame (s : State) :
    (periodicDecision s).pending = s.pending ∧ (periodicDecision s).waiting = s.waiting ∧
    (periodicDecision s).freeCount = s.freeCount ∧
    (periodicDecision s).resetLow = s.resetLow ∧ (periodicDecision s).silence = s.silence ∧
    (periodicDecision s).loader = s.loader ∧ (periodicDecision s).cfg = s.cfg ∧ (periodicDecision s).gau = s.gau ∧
    (periodicDecision s).ib = s.ib ∧ (periodicDecision s).wu = s.wu ∧ (periodicDecision s).pru = s.pru ∧
    (periodicDecision s).services = s.services := by
  unfold periodicDecision; split <;> simp

@[simp] theorem changeAcq_frame (n : AcqState) (s : State) :
    (changeAcq n s).pending = s.pending ∧ (changeAcq n s).waiting = s.waiting ∧
    (changeAcq n s).freeCount = s.freeCount ∧
    (changeAcq n s).resetLow = s.resetLow ∧ (changeAcq n s).silence = s.silence ∧
    (changeAcq n s).loader = s.loader ∧ (changeAcq n s).cfg = s.cfg ∧ (changeAcq n s).ib = s.ib ∧
    (changeAcq n s).wu = s.wu ∧ (changeAcq n s).services = s.services := by
  unfold changeAcq; dsimp only; split <;> simp

@[simp] theorem enterGain_frame (s : State) :
    (enterGain s).pending = s.pending ∧ (enterGain s).waiting = s.waiting ∧ (enterGain s).freeCount = s.freeCount ∧
    (enterGain s).resetLow = s.resetLow ∧ (enterGain s).silence = s.silence ∧ (enterGain s).loader = s.loader ∧
    (enterGain s).cfg = s.cfg ∧ (enterGain s).wu = s.wu ∧ (enterGain s).services = s.services := by
  simp [enterGain]

@[simp] theorem enterSymbol_frame (s : State) :
    (enterSymbol s).pending = s.pending ∧ (enterSymbol s).waiting = s.waiting ∧
    (enterSymbol s).freeCount = s.freeCount ∧
    (enterSymbol s).resetLow = s.resetLow ∧ (enterSymbol s).silence = s.silence ∧
    (enterSymbol s).loader = s.loader ∧ (enterSymbol s).cfg = s.cfg ∧ (enterSymbol s).services = s.services := by
  simp [enterSymbol]

@[simp] theorem enterFrameSearch_frame (t : TrialScore) (s : State) :
    (enterFrameSearch t s).pending = s.pending ∧ (enterFrameSearch t s).waiting = s.waiting ∧
    (enterFrameSearch t s).freeCount = s.freeCount ∧
    (enterFrameSearch t s).resetLow = s.resetLow ∧ (enterFrameSearch t s).silence = s.silence ∧
    (enterFrameSearch t s).loader = s.loader ∧ (enterFrameSearch t s).cfg = s.cfg ∧
    (enterFrameSearch t s).services = s.services := by
  simp [enterFrameSearch]

@[simp] theorem enterFrameConfirm_frame (g : Signalling) (s : State) :
    (enterFrameConfirm g s).pending = s.pending ∧ (enterFrameConfirm g s).waiting = s.waiting ∧
    (enterFrameConfirm g s).freeCount = s.freeCount ∧
    (enterFrameConfirm g s).resetLow = s.resetLow ∧ (enterFrameConfirm g s).silence = s.silence ∧
    (enterFrameConfirm g s).loader = s.loader ∧ (enterFrameConfirm g s).cfg = s.cfg ∧
    (enterFrameConfirm g s).ib = s.ib ∧ (enterFrameConfirm g s).wu = s.wu ∧
    (enterFrameConfirm g s).services = s.services := by
  simp [enterFrameConfirm]

@[simp] theorem enterTrack_frame (g : Option Signalling) (s : State) :
    (enterTrack g s).pending = s.pending ∧ (enterTrack g s).waiting = s.waiting ∧
    (enterTrack g s).freeCount = s.freeCount ∧
    (enterTrack g s).resetLow = s.resetLow ∧ (enterTrack g s).silence = s.silence ∧
    (enterTrack g s).loader = s.loader ∧ (enterTrack g s).cfg = s.cfg ∧ (enterTrack g s).ib = s.ib ∧
    (enterTrack g s).wu = s.wu ∧ (enterTrack g s).services = s.services := by
  simp [enterTrack]

@[simp] theorem enterHold_frame (s : State) :
    (enterHold s).pending = s.pending ∧ (enterHold s).waiting = s.waiting ∧ (enterHold s).freeCount = s.freeCount ∧
    (enterHold s).resetLow = s.resetLow ∧ (enterHold s).silence = s.silence ∧ (enterHold s).loader = s.loader ∧
    (enterHold s).cfg = s.cfg ∧ (enterHold s).ib = s.ib ∧ (enterHold s).wu = s.wu ∧
    (enterHold s).services = s.services := by
  simp [enterHold]

@[simp] theorem reportCause_frame (c : Cause) (s : State) :
    (reportCause c s).pending = s.pending ∧ (reportCause c s).waiting = s.waiting ∧
    (reportCause c s).freeCount = s.freeCount ∧
    (reportCause c s).resetLow = s.resetLow ∧ (reportCause c s).silence = s.silence ∧
    (reportCause c s).loader = s.loader ∧ (reportCause c s).cfg = s.cfg ∧ (reportCause c s).ib = s.ib ∧
    (reportCause c s).wu = s.wu ∧ (reportCause c s).services = s.services := by
  unfold reportCause; dsimp only; split <;> simp

@[simp] theorem structuralFault_frame (s : State) :
    (structuralFault s).pending = s.pending ∧ (structuralFault s).waiting = s.waiting ∧
    (structuralFault s).freeCount = s.freeCount ∧
    (structuralFault s).resetLow = s.resetLow ∧ (structuralFault s).silence = s.silence ∧
    (structuralFault s).cfg = s.cfg ∧ (structuralFault s).gau = s.gau ∧ (structuralFault s).ib = s.ib ∧
    (structuralFault s).wu = s.wu ∧ (structuralFault s).pru = s.pru ∧ (structuralFault s).services = s.services ∧
    (structuralFault s).ri = s.ri ∧ (structuralFault s).ou = s.ou ∧ (structuralFault s).hbu = s.hbu ∧
    (structuralFault s).sau = s.sau := by
  simp [structuralFault]

end Sys2Proof.Machine
end

