-- ==== Sys2Proof/Laws/Lists.lean ====
section
/-! SUPPORT. Laws/Lists.lean: what the list, clamping and saturation operations of Machine/Ops.lean do, each said once. -/

namespace Sys2Proof.Machine

/-! ## Clamping and saturation -/

theorem clampNat_bounds {lo hi : Nat} (x : Nat) (h : lo ≤ hi) : lo ≤ clampNat lo hi x ∧ clampNat lo hi x ≤ hi := by
  unfold clampNat; split <;> [skip; split] <;> omega

theorem clampInt_eq {lo hi : Int} (x : Int) (h : lo ≤ hi) : clampInt lo hi x = max lo (min hi x) := by
  unfold clampInt; split <;> [skip; split] <;> omega

@[simp] theorem satAdd_le (top x n : Nat) : satAdd top x n ≤ top := Nat.min_le_left ..

theorem satAdd_satAdd (top x m n : Nat) : satAdd top (satAdd top x m) n = satAdd top x (m + n) := by
  unfold satAdd; omega

/-! ## Matching: everything through the first match leaves -/

theorem dropThrough_eq_some {α : Type} {p : α → Bool} {l rest : List α} :
    dropThrough p l = some rest ↔ ∃ old e, l = old ++ e :: rest ∧ p e = true ∧ ∀ x ∈ old, p x = false := by
  induction l with
  | nil => simp [dropThrough]
  | cons x l ih =>
    by_cases hx : p x = true
    · simp only [dropThrough, hx, if_true, Option.some.injEq]
      constructor
      · rintro rfl; exact ⟨[], x, rfl, hx, by simp⟩
      · rintro ⟨old, e, h, he, ho⟩
        cases old with
        | nil => exact (List.cons.inj h).2
        | cons y old =>
          have := ho y (by simp)
          rw [← (List.cons.inj h).1, hx] at this; cases this
    · have hx : p x = false := by simpa using hx
      simp only [dropThrough, hx, Bool.false_eq_true, if_false, ih]
      constructor
      · rintro ⟨old, e, rfl, he, ho⟩
        exact ⟨x :: old, e, rfl, he, by simpa [hx] using ho⟩
      · rintro ⟨old, e, h, he, ho⟩
        cases old with
        | nil => rw [List.nil_append, List.cons.injEq] at h; rw [← h.1, hx] at he; cases he
        | cons y old =>
          rw [List.cons_append, List.cons.injEq] at h
          exact ⟨old, e, h.2, he, fun z hz => ho z (List.mem_cons_of_mem _ hz)⟩

theorem dropThrough_eq_none {α : Type} {p : α → Bool} {l : List α} : dropThrough p l = none ↔ ∀ x ∈ l, p x = false := by
  induction l with
  | nil => simp [dropThrough]
  | cons x l ih => by_cases hx : p x = true <;> simp_all [dropThrough]

theorem dropThrough_length {α : Type} {p : α → Bool} {l rest : List α} (h : dropThrough p l = some rest) :
    rest.length < l.length := by
  obtain ⟨old, e, rfl, -, -⟩ := dropThrough_eq_some.mp h
  simp; omega

/-- The newest match and everything older stay (R151). -/
theorem keepThroughLast_append {α : Type} {p : α → Bool} (old : List α) (a : α) (newer : List α) (ha : p a = true)
    (hn : ∀ x ∈ newer, p x = false) : keepThroughLast p (old ++ a :: newer) = old ++ [a] := by
  have h : ∀ l : List α, (∀ x ∈ l, p x = false) → ∀ r, (l ++ a :: r).dropWhile (fun x => !p x) = a :: r := by
    intro l hl r
    induction l with
    | nil => simp [ha]
    | cons y l ih =>
      have hy : p y = false := hl y (by simp)
      simpa [hy] using ih fun x hx => hl x (List.mem_cons_of_mem _ hx)
  have := h newer.reverse (by simpa using hn) old.reverse
  simp [keepThroughLast, this]

theorem keepThroughLast_length {α : Type} (p : α → Bool) (l : List α) : (keepThroughLast p l).length ≤ l.length := by
  have := (List.dropWhile_suffix (l := l.reverse) fun x => !p x).length_le
  simpa [keepThroughLast] using this

/-! ## The first best element -/

theorem bestOf_eq_none {α : Type} {better : α → α → Bool} {l : List α} : bestOf better l = none ↔ l = [] := by
  cases l with
  | nil => simp [bestOf]
  | cons x l =>
    simp only [bestOf]
    split
    · simp
    · split <;> simp

theorem bestOf_mem {α : Type} {better : α → α → Bool} {l : List α} {b : α} (h : bestOf better l = some b) : b ∈ l := by
  induction l generalizing b with
  | nil => simp [bestOf] at h
  | cons x l ih =>
    simp only [bestOf] at h
    split at h
    · cases h; simp
    · rename_i y hy
      split at h <;> cases h
      · exact List.mem_cons_of_mem _ (ih hy)
      · simp

/-- The element found beats all before it and is beaten by none after it, for a strict weak order. -/
theorem bestOf_split {α : Type} {better : α → α → Bool} (asymm : ∀ x y, better x y = true → better y x = false)
    (trans : ∀ x y z, better y x = false → better z y = false → better z x = false) {l : List α} {b : α}
    (h : bestOf better l = some b) :
    ∃ before after, l = before ++ b :: after ∧ (∀ x ∈ before, better b x = true) ∧ ∀ x ∈ after, better x b = false := by
  induction l generalizing b with
  | nil => simp [bestOf] at h
  | cons x l ih =>
    simp only [bestOf] at h
    split at h
    · rename_i hn
      rw [bestOf_eq_none] at hn
      cases h; subst hn; exact ⟨[], [], rfl, by simp, by simp⟩
    · rename_i y hy
      obtain ⟨before, after, hl, hb, ha⟩ := ih hy
      split at h <;> cases h
      · exact ⟨x :: before, after, by rw [hl]; rfl, by simpa [*] using hb, ha⟩
      · refine ⟨[], l, rfl, by simp, fun z hz => ?_⟩
        refine trans _ y z (by simpa using ‹¬better y _ = true›) ?_
        rw [hl] at hz
        rcases List.mem_append.mp hz with hz | hz
        · exact asymm _ _ (hb z hz)
        · rcases List.mem_cons.mp hz with rfl | hz
          · by_contra hc
            exact hc (asymm _ _ (by simpa using hc))
          · exact ha z hz

/-- The element found is beaten by none. -/
theorem bestOf_spec {α : Type} {better : α → α → Bool} (asymm : ∀ x y, better x y = true → better y x = false)
    (trans : ∀ x y z, better y x = false → better z y = false → better z x = false) {l : List α} {b : α}
    (h : bestOf better l = some b) : ∀ x ∈ l, better x b = false := by
  obtain ⟨before, after, rfl, hb, ha⟩ := bestOf_split asymm trans h
  intro x hx
  rcases List.mem_append.mp hx with hx | hx
  · exact asymm _ _ (hb x hx)
  · rcases List.mem_cons.mp hx with rfl | hx
    · by_contra hc
      exact hc (asymm _ _ (by simpa using hc))
    · exact ha x hx

/-! ## Insertion -/

theorem mem_insertBefore {α : Type} {before : α → α → Bool} {x y : α} {l : List α} :
    y ∈ insertBefore before x l ↔ y = x ∨ y ∈ l := by
  induction l with
  | nil => simp [insertBefore]
  | cons z l ih =>
    simp only [insertBefore]
    split
    · simp
    · simp only [List.mem_cons, ih]; tauto

theorem insertBefore_length {α : Type} (before : α → α → Bool) (x : α) (l : List α) :
    (insertBefore before x l).length = l.length + 1 := by
  induction l with
  | nil => rfl
  | cons z l ih => simp only [insertBefore]; split <;> simp [ih]

theorem mem_sortBy {α : Type} {before : α → α → Bool} {y : α} {l : List α} : y ∈ sortBy before l ↔ y ∈ l := by
  induction l with
  | nil => simp [sortBy]
  | cons x l ih =>
    have ih : y ∈ List.foldr (insertBefore before) [] l ↔ y ∈ l := ih
    simp [sortBy, mem_insertBefore, ih]

end Sys2Proof.Machine
end

