-- ==== Sys2Proof/Laws/Operations.lean ====
section
/-! SUPPORT. Laws/Operations.lean: for the shared operations that later proofs meet most, one lemma that says what the operation
does. -/

namespace Sys2Proof.Machine

/-! ## Queues and drop counts -/

@[simp] theorem queueOf_withQueue_self (c : ServiceClass) (q : List QueueEntry) (ri : Riser) :
    queueOf c (withQueue c q ri) = q := by cases c <;> rfl

theorem queueOf_withQueue_ne {c d : ServiceClass} (h : d ≠ c) (q : List QueueEntry) (ri : Riser) :
    queueOf d (withQueue c q ri) = queueOf d ri := by cases c <;> cases d <;> first | rfl | exact absurd rfl h

@[simp] theorem countDrops_queue (c d : ServiceClass) (n : Nat) (s : State) :
    queueOf d (countDrops c n s).ri = queueOf d s.ri := by cases c <;> cases d <;> rfl

/-- A drop count rises in its class alone (R103). -/
theorem countDrops_drops (c d : ServiceClass) (n : Nat) (s : State) :
    dropsOf d (countDrops c n s).ri = if d = c then raiseCountBy n (dropsOf d s.ri) else dropsOf d s.ri := by
  cases c <;> cases d <;> rfl

/-- What counting drops leaves of the riser interface. -/
@[simp] theorem countDrops_riser (c : ServiceClass) (n : Nat) (s : State) :
    (countDrops c n s).ri.tx = s.ri.tx ∧ (countDrops c n s).ri.busView = s.ri.busView
    ∧ (countDrops c n s).ri.statusSlot = s.ri.statusSlot ∧ (countDrops c n s).ri.yieldSlot = s.ri.yieldSlot
    ∧ (countDrops c n s).ri.takeSlot = s.ri.takeSlot ∧ (countDrops c n s).ri.lastSent = s.ri.lastSent
    ∧ (countDrops c n s).ri.clashHold = s.ri.clashHold ∧ (countDrops c n s).ri.clashFlag = s.ri.clashFlag
    ∧ (countDrops c n s).ri.clashCarried = s.ri.clashCarried
    ∧ (countDrops c n s).ri.receiveErrors = s.ri.receiveErrors := by cases c <;> simp [countDrops]

/-- An emptied queue (R96). -/
theorem emptyQueue_queue (c d : ServiceClass) (s : State) :
    queueOf d (emptyQueue c s).ri = if d = c then [] else queueOf d s.ri := by
  cases c <;> cases d <;> rfl

/-- All three queues are empty (R96). -/
@[simp] theorem emptyQueues_queue (d : ServiceClass) (s : State) : queueOf d (emptyQueues s).ri = [] := by
  cases d <;> simp [emptyQueues, emptyQueue_queue]

/-! ## The lamp -/

@[simp] theorem refreshLamp_basePattern (s : State) : basePattern (refreshLamp s) = basePattern s := by
  unfold refreshLamp; split <;> rfl

/-- The pattern shown is the one R189 gives. -/
@[simp] theorem refreshLamp_pattern (s : State) : (refreshLamp s).iu.pattern = basePattern s := by
  unfold refreshLamp; split
  · rename_i h; exact h.symm
  · rfl

@[simp] theorem startFlash_pattern (s : State) : (startFlash s).iu.pattern = s.iu.pattern := by
  unfold startFlash; split <;> rfl

/-! ## Attempts (R91) -/

/-- An attempt changes nothing, or starts the allowed frame on the idle line. -/
theorem attempt_cases (s : State) :
    attempt s = s ∨ ∃ sel, s.ri.busView = .idle ∧ s.ri.tx = .silent ∧ allowedFrame s = some sel
      ∧ attempt s = { s with ri := { s.ri with busView := .busy, tx := .arbitrating sel } } := by
  unfold attempt
  split
  · rename_i h
    split
    · exact .inl rfl
    · rename_i sel hs; exact .inr ⟨sel, h.1, h.2, hs, rfl⟩
  · exact .inl rfl

theorem attempt_settled {s : State} (h : attemptSettled s) : attempt s = s := by
  rcases attempt_cases s with h' | ⟨sel, hi, hs, ha, -⟩
  · exact h'
  · rw [h hi hs] at ha; cases ha

/-! ## Role changes -/

/-- What a change into a role other than OWNER leaves in the blocks beside the riser interface (R120, R142, R159, R166, R167,
R189). -/
theorem changeRole_spec (r : Role) (s : State) :
    (changeRole r s).ou = { s.ou with role := r, challengeCount := 0 }
    ∧ (changeRole r s).sau = { s.sau with share := 0, credit := 0 }
    ∧ (changeRole r s).hbu = storesForRole r s.hbu ∧ (changeRole r s).ri.statusSlot = true := by
  unfold changeRole riserLeavesOwner abandonPayload
  dsimp only
  split <;> refine ⟨?_, ?_, ?_, ?_⟩ <;> simp [setRole, clearAdmission]
  all_goals (split <;> (try split) <;> simp)

/-- What the entry into OWNER leaves (R122, R120). -/
theorem enterOwner_spec (a : Option Signature) (s : State) :
    (enterOwner a s).ou = { s.ou with role := .owner, challengeCount := 0, handoverTimer := none }
    ∧ (enterOwner a s).ri.statusSlot = true := by
  unfold enterOwner
  dsimp only
  split <;> simp [setRole, stopHandover]

/-! ## Decoded records and the packet recovery unit -/

/-- The lamp neither reads nor changes the packet recovery unit. -/
theorem refreshLamp_withPru (p : Pru) (s : State) :
    refreshLamp { s with pru := p } = { refreshLamp s with pru := p } := by
  have h : basePattern { s with pru := p } = basePattern s := rfl
  unfold refreshLamp
  rw [h]
  split <;> rfl

/-! ## What is on its way (R62, R80, R148, R170) -/

@[simp] theorem deliver_frame (d : Route) (r : RingEntry) (s : State) :
    (deliver d r s).pending = s.pending ∧ (deliver d r s).waiting = s.waiting ∧
    (deliver d r s).freeCount = s.freeCount ∧ (deliver d r s).resetLow = s.resetLow ∧
    (deliver d r s).silence = s.silence ∧ (deliver d r s).loader = s.loader ∧ (deliver d r s).cfg = s.cfg ∧
    (deliver d r s).gau = s.gau ∧ (deliver d r s).ib = s.ib ∧ (deliver d r s).wu = s.wu ∧
    (deliver d r s).pru = s.pru ∧ (deliver d r s).services = s.services ∧ (deliver d r s).ou = s.ou := by
  cases d <;> simp [deliver]

/-- A record that reaches the share and admission unit outside OWNER is dropped and counted in its class alone (R170). -/
theorem offerRecord_outside (e : QueueEntry) {s : State} (h : s.ou.role ≠ .owner) :
    offerRecord e s = countDrop e.cls s := by simp [offerRecord, h]

@[simp] theorem settleRecord_frame (s : State) :
    (settleRecord s).pending = s.pending ∧ (settleRecord s).freeCount = s.freeCount ∧
    (settleRecord s).resetLow = s.resetLow ∧ (settleRecord s).silence = s.silence ∧
    (settleRecord s).loader = s.loader ∧ (settleRecord s).cfg = s.cfg ∧ (settleRecord s).gau = s.gau ∧
    (settleRecord s).ib = s.ib ∧ (settleRecord s).wu = s.wu ∧ (settleRecord s).pru = s.pru ∧
    (settleRecord s).services = s.services ∧ (settleRecord s).ou = s.ou ∧
    (settleRecord s).waiting = { record := none, burst := s.waiting.burst } := by
  unfold settleRecord
  split
  · rename_i h
    have hw : s.waiting = { record := none, burst := s.waiting.burst } := by rw [← h]
    simp [← hw]
  · simp

@[simp] theorem settleBurst_frame (s : State) :
    (settleBurst s).pending = s.pending ∧ (settleBurst s).freeCount = s.freeCount ∧
    (settleBurst s).resetLow = s.resetLow ∧ (settleBurst s).silence = s.silence ∧
    (settleBurst s).loader = s.loader ∧ (settleBurst s).cfg = s.cfg ∧ (settleBurst s).ib = s.ib ∧
    (settleBurst s).wu = s.wu ∧ (settleBurst s).services = s.services ∧
    (settleBurst s).waiting = { record := s.waiting.record, burst := false } := by
  unfold settleBurst
  split
  · simp
  · rename_i h
    have hw : s.waiting = { record := s.waiting.record, burst := false } := by
      rw [← show s.waiting.burst = false by simpa using h]
    simp [← hw]

/-- What taking all that waits leaves alone; nothing waits after it. -/
@[simp] theorem takeWaiting_frame (s : State) :
    (takeWaiting s).pending = s.pending ∧ (takeWaiting s).freeCount = s.freeCount ∧
    (takeWaiting s).resetLow = s.resetLow ∧ (takeWaiting s).silence = s.silence ∧
    (takeWaiting s).loader = s.loader ∧ (takeWaiting s).cfg = s.cfg ∧ (takeWaiting s).ib = s.ib ∧
    (takeWaiting s).wu = s.wu ∧ (takeWaiting s).services = s.services ∧
    (takeWaiting s).waiting = nothingWaits := by
  unfold takeWaiting
  split
  · simp [*]
  · simp [nothingWaits]

theorem takeWaiting_nothing {s : State} (h : s.waiting = nothingWaits) : takeWaiting s = s := by
  simp [takeWaiting, h]

/-- A command of a running station that leaves nothing on its way answers its own effect. -/
theorem whenRunning_running {f : State → State} {s : State} (h : running s) (hf : (f s).waiting = s.waiting) :
    whenRunning f s = .next (f s) := by
  simp [whenRunning, h.1, takeWaiting_nothing (hf.trans h.2)]

/-- While RESET is low a gated command changes nothing (R193). -/
theorem whenRunning_low {f : State → State} {s : State} (h : s.resetLow = true) : whenRunning f s = .next s := by
  simp [whenRunning, h]

/-! ## Prediction misses (R55) -/

/-- Counting a miss leaves all of the blanker but the prediction and the mark. -/
theorem takeMiss_eq (ib : Blanker) :
    takeMiss ib = { ib with prediction := predictionAfterMiss ib.prediction, miss := (takeMiss ib).miss } := rfl

/-- A miss taken ahead of its sample is the only one ahead of that sample. -/
theorem missDue_takeMiss {ib : Blanker} (h : ib.miss ≠ .owed) : missDue (takeMiss ib) = false := by
  cases hp : predictionAfterMiss ib.prediction <;> simp [missDue, missOverdue, missAhead, takeMiss, predictedStart, h, hp]

/-- A sample owes its own miss alone: at (predicted start + 65), as the prediction stood before it, if it was not taken ahead. -/
theorem blankSample_miss (k : Nat) (rms : RmsLevel) (held : Option Candidate) (d : Sample) (ib : Blanker) :
    (blankSample k rms held d ib).2.miss = if missAhead ib then .owed else .none := rfl

/-- Nothing is owed once the blanker has settled. -/
theorem settleBlanker_miss (h : Nat) (ib : Blanker) : missOverdue (settleBlanker h ib) = false := by
  have run (ib' : Blanker) : missOverdue (if missOverdue ib' then takeMiss ib' else ib') = false := by
    split
    · rename_i h'; simp [takeMiss, missOverdue, of_decide_eq_true h']
    · rename_i h'; simpa using h'
  exact run _

/-! ## Symbol timing (R21) -/

theorem boundaryDue_iff {wu : Window} :
    boundaryDue wu = true ↔ ∃ g, wu.grid = some g ∧ g.position = g.peak ∧ g.taken = false := by
  unfold boundaryDue; split <;> simp_all

/-- Once a boundary has been taken it is not due again before the next sample. -/
@[simp] theorem boundaryDue_markBoundary (wu : Window) : boundaryDue (markBoundary wu) = false := by
  unfold boundaryDue markBoundary; cases wu.grid <;> simp

/-! ## The configuration memory port (R179) -/

/-- The eight bits of a byte as they stand on the port are sampled back as the byte. -/
theorem byteSampled_byteBits : ∀ b : Byte, byteSampled (byteBits b) = b := by decide

/-! ## Stores (R140, R141, R144, R149) -/

/-- A record appended to a ring of at most 128 entries leaves at most 128. -/
theorem appendRing_length (r : RingEntry) {s : State} (h : s.hbu.ring.length ≤ 128) :
    (appendRing r s).hbu.ring.length ≤ 128 := by
  have he : (expireRing r.stamp s).hbu.ring.length ≤ 128 := by
    have hd := (List.dropWhile_suffix (l := s.hbu.ring) (expired r.stamp)).length_le
    unfold expireRing ringAfterExpiry
    dsimp only
    split <;> simp <;> omega
  unfold appendRing placeInRing
  dsimp only
  split
  · split <;> simp <;> omega
  · simp; omega

theorem appendLead_length (g : Signature) {lead : List Signature} (h : lead.length ≤ 32) :
    (appendLead g lead).length ≤ 32 := by
  unfold appendLead; split <;> simp <;> omega

/-- A PAYLOAD matched against sound stores leaves them sound. -/
theorem matchPayload_sound (g : Signature) {h : HoldBack} (hs : storesSound h) : storesSound (matchPayload g h) := by
  obtain ⟨hr, hl, he, hn⟩ := hs
  unfold matchPayload
  split
  · rename_i h0
    exact ⟨hr, appendLead_length g hl, .inl h0, fun _ => rfl⟩
  · rename_i h0
    have hl0 : h.lead = [] := he.resolve_left h0
    split
    · exact ⟨hr, hl, he, hn⟩
    · rename_i rest hm
      exact ⟨by have := dropThrough_length hm; dsimp only; omega, hl, .inr hl0, fun hc => absurd hl0 hc⟩

/-- The anchor's resolution leaves sound stores sound. -/
theorem resolveAnchor_sound (a : Option Signature) {h : HoldBack} (hs : storesSound h) :
    storesSound (resolveAnchor a h) := by
  obtain ⟨hr, hl, he, -⟩ := hs
  have live : storesSound (resolveToLive h) := ⟨by simp [resolveToLive], by simp [resolveToLive], .inl rfl, fun _ => rfl⟩
  unfold resolveAnchor
  split
  · exact live
  · split
    · exact ⟨hr, hl, he, fun _ => rfl⟩
    · split
      · rename_i rest hm
        refine ⟨by have := dropThrough_length hm; dsimp only; omega, hl, ?_, fun _ => rfl⟩
        rcases he with h0 | h0
        · rw [h0] at hm; cases hm
        · exact .inr h0
      · split
        · rename_i hm
          have hring : h.ring = [] := he.resolve_right fun h0 => by rw [h0] at hm; cases hm
          exact ⟨hr, Nat.le_trans (keepThroughLast_length _ _) hl, .inl hring, fun _ => rfl⟩
        · exact live

end Sys2Proof.Machine
end

