-- ==== Sys2Proof/Tests/Slice0.lean ====
section
/-! SUPPORT. Tests/Slice0.lean: the well-formedness smoke tests, the spec's own worked cases run on small states, and for every
statement with hypotheses a state and operands that meet them. -/

namespace Sys2Proof.Tests

open Sys2Proof.Machine

/-! ## Small states -/

/-- The state after one command; every command of the model answers a next state. -/
def run (c : Instr) (s : State) : State :=
  match exec c s with
  | .next t => t
  | .fault _ => s
  | .refused _ => s

/-- Out of reset, with nothing fetched yet. -/
def up : State := { State.reset with resetLow := false }

/-- Fetching at a stage. -/
def at' (stage : FetchStage) : State := { up with loader := { up.loader with stage := stage, imageLength := 120 } }

/-- Configured, station 7. -/
def ready : State :=
  { up with loader := { up.loader with state := .complete, address := 7 }, sau := { up.sau with ticking := true },
            ou := { up.ou with reportTimer := some 100 } }

def withAcq (a : AcqState) (s : State) : State := { s with gau := { s.gau with acq := a } }

def withRole (r : Role) (s : State) : State := { s with ou := { s.ou with role := r } }

def withTx (t : Transmission) (s : State) : State := { s with ri := { s.ri with tx := t } }

/-- Long mode with g = 1/32: N = 8192, G = 256. -/
def long32 : Candidate := ⟨.long, .thirtySecond⟩

/-- With the mode held and the timing grid set, away from a grid point. -/
def gridded (s : State) : State :=
  { s with gau := { s.gau with held := some long32 }
           wu := { s.wu with grid := some { peak := 0, period := 8448, position := 5, taken := false } } }

/-- The next sample stands at a grid point. -/
def atBoundary (s : State) : State :=
  { s with wu := { s.wu with grid := some { peak := 0, period := 8448, position := 0, taken := false } } }

/-- The bus view has been IDLE since the end of reset. -/
def heard (s : State) : State := { s with ri := { s.ri with heardIdle := true } }

def tracking : State := gridded (withAcq .track ready)

def holding : State := gridded (withAcq .hold ready)

def standby : State := withRole .standby tracking

def taking : State := withRole .taking tracking

/-- OWNER in LIVE. -/
def owner : State := { withRole .owner tracking with hbu := { ready.hbu with phase := .live } }

def sig64 : Signalling := ⟨.point64, .rate2_3⟩

/-- The worked peer of group 0. -/
def peer (a : Address) (r : AnnouncedRole) (merit : Nat) : Peer :=
  { address := a, group := 0, role := r, acq := .track, merit := merit, demand := 0, floor := 0, lastSignature := none,
    age := 0, liveness := .live }

def withPeers (l : List Peer) (s : State) : State := { s with ou := { s.ou with peers := l } }

def status (a : Address) (r : AnnouncedRole) (merit : Nat) : StatusFrame :=
  { sender := a, group := 0, role := r, phase := .none, acq := .track, clash := false, addressClash := false,
    configClamped := false, merit := merit, demand := 0, floor := 0, causes := noCauses, fallsHold := 0,
    fallsFrame := 0, fallsSymbol := 0, ringDepth := 0, leadDepth := 0, dropsPremium := 0, dropsStandard := 0,
    dropsSpare := 0, receiveErrors := 0 }

/-- In SEARCH with the 64th boundary at the next sample. -/
def lastBoundary : State :=
  atBoundary { withAcq .frame ready with gau := { (withAcq .frame ready).gau with searchCount := 63 } }

/-- A packet with an identifier below 256 and no error indicator. -/
def packet (id : Nat) : Packet := (Vector.replicate 188 0x47#8).set 1 0x00#8 |>.set 2 (byte1 id)

/-- A packet that was corrected, its record and its report taken within the step. -/
def atOnce : PacketReport := { uncorrectable := false, recordLater := false, reportLater := false }

/-- A packet whose error indicator is set. -/
def errored (id : Nat) : Packet := (packet id).set 1 0x80#8

def entry (first count : Nat) (m : ServiceMode) (c : ServiceClass) : ServiceEntry :=
  { first := first, count := count, mode := m, cls := c, suspension := .active, thisPeriod := false, lastPeriod := false }

def queued (c : ServiceClass) : QueueEntry := { bytes := packet 5, outId := 900, cls := c, errored := true, signature := 7#16 }

def stored (g : Signature) : RingEntry :=
  { signature := g, outId := 5, cls := .premium, errored := false, stamp := 0, bytes := packet 5 }

def header (g : Group) (out : Nat) (c : Signature) : PayloadHeader :=
  { sender := 3, group := g, errored := false, cls := .premium, outId := out, signature := c }

/-! ## Well-formedness: an ill-formed term for each check is refused -/

theorem test_wf_nine_peaks : (Instr.profileUpdate (List.replicate 9 ⟨0, 1⟩)).wellFormed = false := by decide

theorem test_wf_entry : (Instr.suspensionHoldEnd 32).wellFormed = false ∧ (Instr.suspensionHoldEnd 31).wellFormed = true := by
  decide

theorem test_wf_status :
    (Instr.statusReceived (status 3 .owner 1001)).wellFormed = false
    ∧ (Instr.statusReceived { status 3 .owner 1000 with demand := 4096 }).wellFormed = false
    ∧ (Instr.statusReceived { status 3 .owner 1000 with floor := 4096 }).wellFormed = false
    ∧ (Instr.statusReceived { status 3 .owner 1000 with fallsHold := 256 }).wellFormed = false
    ∧ (Instr.statusReceived { status 3 .owner 1000 with fallsFrame := 256 }).wellFormed = false
    ∧ (Instr.statusReceived { status 3 .owner 1000 with fallsSymbol := 256 }).wellFormed = false
    ∧ (Instr.statusReceived { status 3 .owner 1000 with ringDepth := 256 }).wellFormed = false
    ∧ (Instr.statusReceived { status 3 .owner 1000 with leadDepth := 256 }).wellFormed = false
    ∧ (Instr.statusReceived { status 3 .owner 1000 with dropsPremium := 256 }).wellFormed = false
    ∧ (Instr.statusReceived { status 3 .owner 1000 with dropsStandard := 256 }).wellFormed = false
    ∧ (Instr.statusReceived { status 3 .owner 1000 with dropsSpare := 256 }).wellFormed = false
    ∧ (Instr.statusReceived { status 3 .owner 1000 with receiveErrors := 256 }).wellFormed = false
    ∧ (Instr.statusReceived (status 3 .owner 1000)).wellFormed = true := by decide

theorem test_wf_take : (Instr.takeReceived ⟨3, 0, 1001, none⟩).wellFormed = false := by decide

theorem test_wf_payload : (Instr.payloadReceived (header 0 8192 0)).wellFormed = false := by decide

/-! ## The spec's worked cases -/

/-- Section "the gain loop across output periods": steps and pending duties. -/
theorem test_gain_loop :
    gainStep (-160) = -32 ∧ pendingDutyFor 512 (-32) = 544 ∧ gainStep (-155) = -32 ∧ gainStep (-120) = -30
    ∧ pendingDutyFor 544 (-30) = 574 ∧ gainStep (-8) = -2 ∧ pendingDutyFor 574 (-2) = 576 := by decide

/-- R2: full scale is 0, and half of full scale is 200 × log10 (1/2) = −60.2, rounded down. -/
theorem test_measured_level : measuredLevel 4194304 1 = 0 ∧ measuredLevel 1048576 1 = -61 ∧ measuredLevel 0 1 = -900 := by
  decide +kernel

/-- Section "acquisition after reset": trial 2 scores long 1/32 at 70 and long 1/16 at 52 over a threshold of 48; trial 1 has
no score above 31. -/
theorem test_trial_choice :
    chooseCandidate 48 [⟨⟨.short, .quarter⟩, 47, 9⟩, ⟨⟨.long, .sixteenth⟩, 52, 3⟩, ⟨long32, 70, 5⟩] = some ⟨long32, 70, 5⟩
    ∧ chooseCandidate 48 [⟨long32, 31, 5⟩] = none := by decide

/-- Section "a hold, its causes and their clearing": the first completion takes ERASURE_BURST off alone. -/
theorem test_causes_clear :
    (settleCauses (recordCause .errorBurst (markCauses (recordCause .erasureBurst (recordCause .errorBurst ready))))).gau.causes
      = { noCauses with errorBurst := true } := by decide

/-- Section "a drifting delay triggers a merge". -/
theorem test_merge_update :
    mergeUpdate [⟨1, 39000⟩, ⟨183, 12400⟩, ⟨303, 4600⟩, ⟨520, 2500⟩]
      [⟨0, 40000, .confirmed, 0⟩, ⟨180, 12000, .confirmed, 0⟩, ⟨186, 3000, .new, 0⟩, ⟨300, 5000, .confirmed, 0⟩]
    = [⟨1, 39750, .confirmed, 0⟩, ⟨183, 15100, .confirmed, 0⟩, ⟨303, 4900, .confirmed, 0⟩, ⟨520, 2500, .new, 0⟩] := by
  decide +kernel

/-- Section "placing the window": both updates. -/
theorem test_window_placement :
    spill 256 [⟨0, 40000, .confirmed, 0⟩, ⟨180, 12000, .confirmed, 0⟩, ⟨300, 5000, .confirmed, 0⟩] 256 = 3437
    ∧ windowTarget 256 [⟨0, 40000, .confirmed, 0⟩, ⟨180, 12000, .confirmed, 0⟩, ⟨300, 5000, .confirmed, 0⟩] = some 256
    ∧ pendingFor 256 8 200 256 = (208, .step)
    ∧ windowTarget 256 [⟨1, 39750, .confirmed, 0⟩, ⟨183, 15100, .confirmed, 0⟩, ⟨303, 4900, .confirmed, 0⟩,
        ⟨520, 2500, .new, 0⟩] = some 257
    ∧ pendingFor 256 8 208 257 = (216, .step) := by decide +kernel

/-- Section "a pump is predicted, drifts and stops". -/
theorem test_pump_predicted :
    predictionAfterEvent 682754#32 (pushHistory 682754#32 [4294900000#32, 182704#32, 432804#32]) .unarmed
      = .armed 249950#32 682754#32 0
    ∧ predictionAfterEvent 932730#32 [] (.armed 249950#32 682754#32 0) = .armed 249976#32 932730#32 0
    ∧ predictionAfterMiss (.armed 249976#32 932730#32 0) = .armed 249976#32 1182706#32 1
    ∧ predictionAfterEvent 1300000#32 [] (.armed 249976#32 1182706#32 1) = .armed 249976#32 1182706#32 1
    ∧ predictionAfterEvent 1432700#32 [] (.armed 249976#32 1182706#32 1) = .armed 249994#32 1432700#32 0 := by decide

/-- Section "one impulse across a symbol boundary": a symbol is erased above 512 blanked samples. -/
theorem test_erasure_limit :
    symbolVerdict .sixteenth long32 { Blanker.reset with blankedCount := 148 } = some false
    ∧ symbolVerdict .sixteenth long32 { Blanker.reset with blankedCount := 633 } = some true := by decide

/-- Section "grading one period". -/
theorem test_grading :
    (closePeriod .track { Pru.reset with
        tallies := ⟨248500, 1022, 1024, 2, 2100, 3⟩, smoothed := 300, fresh := false, signalling := some sig64 }).smoothed = 311
    ∧ rawMerit ⟨248500, 1022, 1024, 2, 2100, 3⟩ (requiredMer sig64) = 346 := by decide

/-- Section "one table and its lookups". -/
theorem test_service_table :
    loadedEntry ⟨8000, 300, 0, 0, 2⟩ = entry 8000 191 .keep .spare ∧ entryClamped ⟨8000, 300, 0, 0, 2⟩ = true
    ∧ outputIdentifier (entry 600 200 (.offset 7500) .spare) 650 = 8150
    ∧ outputIdentifier (entry 600 200 (.offset 7500) .spare) 700 = 9
    ∧ ([entry 256 16 .keep .standard, entry 260 1 (.fixed 900) .premium].find? (covers 260)) = some (entry 256 16 .keep .standard)
    := by decide

/-- Section "three stations at one quiet moment": the arbitration bytes; a STATUS lasts 199 bit-times of 5 ns. -/
theorem test_arbitration_bytes :
    arbitrationByte 0 3 = 0x0C#8 ∧ arbitrationByte 0 5 = 0x14#8 ∧ arbitrationByte 1 7 = 0x5C#8
    ∧ (lineBits (frameBytes (.status (status 3 .owner 420)))).length = 199 := by decide +kernel

/-- Section "the three cases of the share". -/
theorem test_shares :
    shareOf 6000 [(300, 800), (1000, 500), (2000, 0)] (300, 800) = 1533
    ∧ shareOf 6000 [(2500, 0), (2000, 1000), (3000, 500)] (2500, 0) = 1875
    ∧ shareOf 6000 [(2500, 0), (2000, 1000), (3000, 500)] (3000, 500) = 2375 := by decide

/-- Section "an owner's credit under a burst": the first SPARE at 800, the fifth at 400, and the first overdraft. -/
theorem test_credit_burst :
    passesCredit .spare { owner with sau := { owner.sau with credit := 500 } } = true
    ∧ passesCredit .spare { owner with sau := { owner.sau with credit := 400 } } = false
    ∧ passesCredit .standard { owner with sau := { owner.sau with credit := 100 } } = true
    ∧ passesCredit .standard { owner with sau := { owner.sau with credit := 0 } } = false
    ∧ chargedCredit { owner with sau := { owner.sau with credit := -770 } } = -800 := by decide

/-! ## One step each -/

theorem test_reset_end_straps : (run (.resetEnd 0b0101#4) State.reset).loader.address = 5 := by decide

theorem test_fetch_opens : portBytes (run .resetEnableCommand (at' .resetEnable)).loader.stage = [0x99#8] := by decide

theorem test_recovery_wait : (run .recoveryWaitEnd (run .resetCommand (at' .resetCommand))).loader.stage = .headerRead := by
  decide

/-- The damaged image's header: 4C31h, length 120, first record at 8. -/
theorem test_header_read :
    (run (.headerRead [0x4C#8, 0x31#8, 0#8, 0#8, 120#8, 0#8, 0#8, 8#8]) (at' .headerRead)).loader.stage = .recordRead 8 := by
  decide

theorem test_record_damaged :
    (run (.recordRead [1#8, 0#8, 0#8, 0#8, 0#8, 0#8]) (at' (.recordRead 8))).loader.state = .configFault
    ∧ (run (.recordRead [1#8, 0#8, 0#8, 0#8, 0#8, 0#8]) (at' (.recordRead 8))).loader.retryTimer = some 2000 := by
  decide +kernel

theorem test_run_end :
    (run .runEnd { tracking with ib := { tracking.ib with runState := .blanking, quietCount := 32 } }).ib.runState = .quiet
    ∧ (run .runEnd { tracking with ib := { tracking.ib with runState := .blanking, quietCount := 31 } }).ib.runState
      = .blanking := by decide

theorem test_overlong_run :
    (run .overlongRun { tracking with ib := { tracking.ib with runState := .blanking, runLength := 1024 } }).ib.suspended
      = true := by decide

/-- R44: the stamp wraps. -/
theorem test_sample_stamp_wraps :
    (run (.sample 5#12) { ready with ib := { ready.ib with stamp := 0xFFFFFFFF#32 } }).ib.stamp = 0 := by decide

/-- R55, with the longest period 2^32 - 1: a miss counted ahead of its sample is not counted again, although the start it moves
to has its own window's end at the sample that follows. -/
theorem test_miss_counted_once :
    (let s := { ready with ib := { ready.ib with prediction := .armed 0xFFFFFFFF#32 10#32 0, stamp := 74#32 } }
     let t := run (.sample 0#12) (run (.sample 0#12) (run .predictionMiss s))
     t.ib.prediction = .armed 0xFFFFFFFF#32 9#32 1) := by decide

/-- R53, R54, R55, with period 2^32 - 65: the sample that arms the prediction is no miss, although it stands 65 after the
start. -/
theorem test_arming_sample_no_miss :
    (let s := { withAcq .gain ready with ib := { ready.ib with history := [195#32, 130#32, 65#32] } }
     let t := run (.sample 0x7FF#12) s
     t.ib.prediction = .armed 0xFFFFFFBF#32 0#32 0 ∧ missDue t.ib = false) := by decide

theorem test_duty_transfer :
    (run .outputPeriodEnd { ready with gau := { ready.gau with pendingDuty := 544, transferPending := true } }).gau.appliedDuty
      = 544 := by decide

/-- R22: index 63 passes to 0 and the frame counter wraps from 65535 to 0. -/
theorem test_frame_counter_wraps :
    (run (.symbolBoundary true)
      (atBoundary { tracking with wu := { tracking.wu with symbolIndex := 63, frameCounter := 65535 } })).wu.frameCounter = 0 := by decide

/-- The eighth erased symbol in a row puts the station into HOLD. -/
theorem test_erasure_burst :
    (run (.symbolBoundary false)
      (atBoundary { tracking with ib := { tracking.ib with blankedCount := 513, burstRun := 7 } })).gau.acq = .hold := by decide

theorem test_merit_lost_in_hold :
    (run (.frameCheck ⟨false, none⟩)
      { tracking with gau := { tracking.gau with syncMissRun := 1 }, pru := { tracking.pru with smoothed := 300 } }).pru.smoothed
      = 0 := by decide

theorem test_packet_admitted :
    (run (.packetDecoded (packet 5) atOnce) { owner with services := [entry 5 1 (.fixed 900) .premium] }).ri.premium.map
      QueueEntry.outId = [900] := by decide +kernel

theorem test_demand :
    (run (.reportExpiry true) { owner with sau := { owner.sau with offered := 70 } }).sau.demand = 70 := by decide +kernel

/-- A strictly greater merit takes the multiplex; an equal one is refused. -/
theorem test_take_answered :
    (run (.takeReceived ⟨3, 0, 516, none⟩) { owner with pru := { owner.pru with smoothed := 515 } }).ou.role = .yielding
    ∧ (run (.takeReceived ⟨3, 0, 515, none⟩) { owner with pru := { owner.pru with smoothed := 515 } }).ou.role = .owner := by
  decide

theorem test_yield_makes_owner :
    (run (.yieldReceived ⟨3, 0, some 7#16, some 7, .challenged⟩)
      { taking with hbu := { taking.hbu with lead := [6#16, 7#16, 8#16] } }).hbu.phase = .catchUp := by decide +kernel

theorem test_clash_suspends :
    clashCondition (run (.payloadReceived (header 1 900 0))
      { ready with cfg := { ready.cfg with group := 2 }
                   services := [{ entry 18 1 (.fixed 900) .premium with thisPeriod := true }] }) = true := by decide +kernel

theorem test_receive_error : (run (.receiveError [0x0C#8]) ready).ri.receiveErrors.count = 1 := by decide +kernel

theorem test_own_address :
    faultAsserted (run (.ownAddressFrame (frameBytes (.take ⟨7, 0, 5, none⟩))) (heard ready)) = true := by decide +kernel

/-- Before the first idle line the address is not compared. -/
theorem test_own_address_before_idle :
    faultAsserted (run (.ownAddressFrame (frameBytes (.take ⟨7, 0, 5, none⟩))) ready) = false := by decide +kernel

/-- R62: the packet after the 64th errored one is still taken in TRACK when the report is taken after it. -/
theorem test_next_packet_before_hold :
    (let s := { tracking with pru := { tracking.pru with errorRun := 63 } }
     let t := run (.packetDecoded (packet 5) atOnce) (run (.packetDecoded (errored 5) { atOnce with reportLater := true }) s)
     t.pru.tallies.allPackets = 2 ∧ t.gau.acq = .hold) := by decide +kernel

/-- R11: the 64th boundary first counts a pass, the report first does not. -/
theorem test_boundary_and_sync_together :
    (run (.syncFound true) lastBoundary).gau.passCount = 1 ∧ (run (.syncFound false) lastBoundary).gau.passCount = 0 := by
  decide

/-- R179: 66h leaves most significant bit first, eight clocks, and the select line is high after it; a header of another format
is read no further than its first two bytes. -/
theorem test_port :
    ((portLevels 0 .resetEnable []).filter PortLevels.clockHigh).map PortLevels.dataOut
      = [some false, some true, some true, some false, some false, some true, some true, some false]
    ∧ (portLevels 0 .resetEnable []).getLast? = some portAtRest
    ∧ dataBytes 0 .headerRead [0x4C#8, 0x30#8] = 2 ∧ byteSampled (byteBits 0x4C#8) = 0x4C#8 := by decide

/-- R98: bits 6 and 5 of the second byte go out as decoded. -/
theorem test_sent_packet_keeps_bits :
    (sentPacket ((packet 5).set 1 0x7F#8) 900 false)[1] = 0x63#8 ∧ (sentPacket ((packet 5).set 1 0x1F#8) 900 true)[1] = 0x83#8
    ∧ (sentPacket (packet 5) 900 false)[2] = 0x84#8 := by decide +kernel

theorem test_silence_drops :
    (run .silenceAssert { owner with ri := { owner.ri with standard := [queued .standard] } }).ri.dropsStandard.count = 1 := by
  decide

/-! ## Witnesses: for every statement with hypotheses, states and operands that meet them, clause by clause -/

theorem witness_StepRunsFrontCommandOrIdles :
    { up with pending := [.busIdle, .reset] }.pending = .busIdle :: [.reset] ∧ up.pending = [] := by decide

theorem witness_ResetPinHoldsStation :
    State.reset.resetLow = true ∧ { State.reset with silence := true }.resetLow = true
    ∧ Instr.runEnd ≠ .reset ∧ (∀ straps, Instr.runEnd ≠ .resetEnd straps) ∧ Instr.runEnd ≠ .silenceAssert
    ∧ Instr.runEnd ≠ .silenceRelease := by decide

theorem witness_FetchRunsItsTransactions :
    running (at' .resetEnable) ∧ (at' .resetEnable).loader.state ≠ .complete
    ∧ (at' .resetEnable).loader.stage = .resetEnable ∧ (at' .resetCommand).loader.stage = .resetCommand
    ∧ (at' .recoveryWait).loader.stage = .recoveryWait
    ∧ (let s := { up with loader := { up.loader with state := .configFault, retryTimer := some 2000 } }
       running s ∧ s.loader.state = .configFault ∧ s.loader.retryTimer = some 2000)
    ∧ selectLow (.recordRead 8) = true ∧ 16777215 < 16777216
    ∧ u16At [0x4C#8, 0x31#8, 0#8, 0#8, 8#8] 0 = 0x4C31 ∧ 8 ≤ u24At [0x4C#8, 0x31#8, 0#8, 0#8, 8#8] 2
    ∧ 1 ≤ u8At [4#8, 0#8, 11#8] 0 ∧ u8At [4#8, 0#8, 11#8] 0 ≤ 4 ∧ 8 + (6 + u16At [4#8, 0#8, 11#8] 1 + 2) ≤ 27 := by
  unfold running; decide

/-- The good header of an image of 120 bytes with its first record at 8, the lowest address a record can have. -/
def goodHeader : List Byte := [0x4C#8, 0x31#8, 0#8, 0#8, 120#8, 0#8, 0#8, 8#8]

/-- A STATION record of 11 payload bytes, all 1, with its CRC and a next-record address. -/
def stationRecord (next : Byte) : List Byte :=
  let body := [1#8, 0#8, 11#8, 0#8, 0#8, next] ++ List.replicate 11 1#8
  body ++ sigBytes (crc16 body)

def stationKept : Record := { kind := .station, payload := List.replicate 11 1#8 }

/-- `data` at stage RECORD_READ of address `a` holds the good record `r`, and the station fetches. -/
def goodRecordAt (data : List Byte) (a : Nat) (r : Record) (s : State) : Prop :=
  running s ∧ s.loader.state ≠ .complete ∧ s.loader.stage = .recordRead a ∧ recordKindOfCode (u8At data 0) = some r.kind
    ∧ a + (6 + u16At data 1 + 2) ≤ s.loader.imageLength
    ∧ crc16 (bytesAt data 0 (6 + u16At data 1)) = sigAt data (6 + u16At data 1) ∧ r.payload = bytesAt data 6 (u16At data 1)

/-- Fetching at a record read with some records counted. -/
def walked (a n : Nat) : State :=
  { at' (.recordRead a) with loader := { (at' (.recordRead a)).loader with recordCount := n } }

theorem witness_FetchBeginsAndWalksChain :
    State.reset.resetLow = true
    ∧ (running (at' .headerRead) ∧ (at' .headerRead).loader.state ≠ .complete
      ∧ (at' .headerRead).loader.stage = .headerRead ∧ u16At goodHeader 0 = 0x4C31 ∧ 8 ≤ u24At goodHeader 2
      ∧ 8 ≤ u24At goodHeader 5 ∧ u24At goodHeader 5 < u24At goodHeader 2)
    ∧ (goodRecordAt (stationRecord 119#8) 8 stationKept (walked 8 39) ∧ (walked 8 39).loader.recordCount < 40
      ∧ 8 ≤ u24At (stationRecord 119#8) 3 ∧ u24At (stationRecord 119#8) 3 < (walked 8 39).loader.imageLength) := by
  unfold goodRecordAt running; decide +kernel

/-- `data` at stage HEADER_READ of a running fetch, none kept. -/
def headerAt (s : State) : Prop :=
  running s ∧ s.loader.state ≠ .complete ∧ s.loader.stage = .headerRead ∧ s.loader.kept = []

/-- `data` at stage RECORD_READ of address `a` of a running fetch. -/
def recordAt (a : Nat) (s : State) : Prop :=
  running s ∧ s.loader.state ≠ .complete ∧ s.loader.stage = .recordRead a

/-- Each case of the hypothesis whole, at a boundary of its range: the header's four, the four of a record that is not good, and
the three of a good one (the 41st, the next addresses 7 and the image's length, the record checks). -/
theorem witness_StructuralFaultEndsFetch :
    (headerAt (at' .headerRead) ∧ u16At [0x4C#8, 0x30#8] 0 ≠ 0x4C31)
    ∧ (headerAt (at' .headerRead) ∧ u24At [0x4C#8, 0x31#8, 0#8, 0#8, 7#8] 2 < 8)
    ∧ (headerAt (at' .headerRead) ∧ u24At [0x4C#8, 0x31#8, 0#8, 0#8, 120#8, 0#8, 0#8, 0#8] 5 < 8)
    ∧ (headerAt (at' .headerRead) ∧ u24At [0x4C#8, 0x31#8, 0#8, 0#8, 120#8, 0#8, 0#8, 120#8] 2
      ≤ u24At [0x4C#8, 0x31#8, 0#8, 0#8, 120#8, 0#8, 0#8, 120#8] 5)
    ∧ (recordAt 8 (walked 8 0) ∧ u8At [0#8] 0 = 0)
    ∧ (recordAt 8 (walked 8 0) ∧ 4 < u8At [5#8] 0)
    ∧ (recordAt 102 (walked 102 0) ∧ (walked 102 0).loader.imageLength < 102 + (6 + u16At (stationRecord 0#8) 1 + 2))
    ∧ (recordAt 8 (walked 8 0) ∧ crc16 (bytesAt [1#8, 0#8, 0#8] 0 (6 + u16At [1#8, 0#8, 0#8] 1))
      ≠ sigAt [1#8, 0#8, 0#8] (6 + u16At [1#8, 0#8, 0#8] 1))
    ∧ (goodRecordAt (stationRecord 119#8) 101 stationKept (walked 101 40) ∧ 40 ≤ (walked 101 40).loader.recordCount)
    ∧ (goodRecordAt (stationRecord 7#8) 101 stationKept (walked 101 39)
      ∧ u24At (stationRecord 7#8) 3 ≠ 0 ∧ u24At (stationRecord 7#8) 3 < 8)
    ∧ (goodRecordAt (stationRecord 120#8) 101 stationKept (walked 101 39)
      ∧ u24At (stationRecord 120#8) 3 ≠ 0 ∧ (walked 101 39).loader.imageLength ≤ u24At (stationRecord 120#8) 3)
    ∧ (let s := { walked 101 1 with loader := { (walked 101 1).loader with kept := [stationKept] } }
       goodRecordAt (stationRecord 0#8) 101 stationKept s ∧ u24At (stationRecord 0#8) 3 = 0
       ∧ imageFaulty (s.loader.kept ++ [stationKept])) := by
  unfold headerAt recordAt goodRecordAt running imageFaulty
  refine ⟨?_, ?_, ?_, ?_, ?_, ?_, ?_, ?_, ?_, ?_, ?_, ?_⟩ <;> decide +kernel

theorem witness_CompletionReleasesBlocks :
    running (at' (.recordRead 101)) ∧ (at' (.recordRead 101)).loader.state ≠ .complete
    ∧ (at' (.recordRead 101)).loader.stage = .recordRead 101
    ∧ readRecord (at' (.recordRead 101)).loader.imageLength 101 (stationRecord 0#8) = some stationKept
    ∧ (at' (.recordRead 101)).loader.recordCount < 40 ∧ u24At (stationRecord 0#8) 3 = 0
    ∧ ¬imageFaulty ((at' (.recordRead 101)).loader.kept ++ [stationKept])
    ∧ (at' (.recordRead 101)).gau.acq = .idle ∧ (at' (.recordRead 101)).ou.role = .absent := by
  unfold running imageFaulty; decide +kernel

theorem witness_LoadedValuesLieInRange :
    payloadsOf .station [stationKept] = [List.replicate 11 1#8] ∧ payloadsOf .reception [stationKept] = []
    ∧ payloadsOf .share [stationKept] = []
    ∧ payloadsOf .reception [⟨.reception, List.replicate 10 2#8⟩] = [List.replicate 10 2#8]
    ∧ u8At (List.replicate 10 0#8) 6 = 0 ∧ u8At (List.replicate 10 1#8) 6 = 1 ∧ 2 ≤ u8At (List.replicate 10 2#8) 6
    ∧ payloadsOf .share [⟨.share, List.replicate 5 0#8⟩] = [List.replicate 5 0#8]
    ∧ imageClamped [stationKept] = true ∧ imageClamped [] = false
    ∧ entrySound ⟨8000, 300, 1, 9000, 2⟩ = true ∧ covers 8190 (loadedEntry ⟨8000, 300, 1, 9000, 2⟩) = true
    ∧ entrySound ⟨8191, 1, 2, 8190, 0⟩ = true ∧ 8191 ≤ (⟨8191, 1, 2, 8190, 0⟩ : RawEntry).first := by decide +kernel

/-- In TRACK with a level of 100 measured over one sample. -/
def listening : State := { tracking with gau := { tracking.gau with rms := .measured 10000 1 } }

/-- In a blanking run. -/
def blanking : State := { listening with ib := { listening.ib with runState := .blanking, runLength := 1 } }

/-- The next sample is the first after the 129 samples of an ARMED prediction. -/
def windowEnds (miss : MissMark) : State :=
  { listening with ib := { listening.ib with
      prediction := .armed 249976#32 932730#32 0, stamp := 1182771#32, miss := miss } }

theorem witness_SampleJudgedAgainstThreshold :
    (running listening ∧ nothingDue listening ∧ listening.gau.acq ≠ .idle ∧ listening.ib.suspended = false
      ∧ listening.ib.runState = .quiet ∧ listening.ib.prediction = .unarmed ∧ listening.gau.rms = .measured 10000 1
      ∧ listening.cfg.impulseThreshold ^ 2 * 10000 < (8 * (401#12 : Sample).toInt.natAbs) ^ 2 * 1)
    ∧ ¬(listening.cfg.impulseThreshold ^ 2 * 10000 < (8 * (400#12 : Sample).toInt.natAbs) ^ 2 * 1)
    ∧ (let s := { listening with ib := { listening.ib with prediction := .armed 256#32 0#32 0, stamp := 192#32 } }
       running s ∧ nothingDue s ∧ (s.ib.stamp - (0#32 + 256#32) + 64#32).toNat ≤ 128
       ∧ s.cfg.impulseThreshold ^ 2 * 10000 < (16 * (201#12 : Sample).toInt.natAbs) ^ 2 * 1)
    ∧ (let s := { listening with gau := { listening.gau with rms := .target } }
       running s ∧ nothingDue s
       ∧ s.cfg.impulseThreshold ^ 4 * 2048 ^ 4 < (8 * (1457#12 : Sample).toInt.natAbs) ^ 4 * 1000
       ∧ ¬(s.cfg.impulseThreshold ^ 4 * 2048 ^ 4 < (8 * (1456#12 : Sample).toInt.natAbs) ^ 4 * 1000))
    ∧ (let s := { listening with ib := { listening.ib with suspended := true } }
       running s ∧ nothingDue s ∧ s.gau.acq ≠ .idle ∧ s.ib.suspended = true)
    ∧ (running blanking ∧ nothingDue blanking ∧ blanking.gau.acq ≠ .idle ∧ blanking.ib.suspended = false
      ∧ blanking.ib.runState = .blanking ∧ blanking.gau.held = some long32 ∧ blanking.ib.blankedCount < symbolLength long32)
    ∧ (running up ∧ nothingDue up ∧ up.gau.acq = .idle)
    ∧ (running (windowEnds .none) ∧ nothingDue (windowEnds .none) ∧ (windowEnds .none).gau.acq ≠ .idle
      ∧ (windowEnds .none).ib.miss ≠ .taken ∧ (windowEnds .none).ib.prediction = .armed 249976#32 932730#32 0
      ∧ (windowEnds .none).ib.stamp = 932730#32 + 249976#32 + 65#32)
    ∧ (running (windowEnds .taken) ∧ nothingDue (windowEnds .taken) ∧ ¬((windowEnds .taken).ib.miss ≠ .taken)) := by
  unfold running nothingDue attemptSettled noCountDue
  refine ⟨?_, ?_, ?_, ?_, ?_, ?_, ?_, ?_, ?_⟩ <;> decide +kernel

theorem witness_RunsEndAndPredictionFollows :
    (let s := { blanking with ib := { blanking.ib with quietCount := 32, runLength := 1023 } }
     running s ∧ s.ib.runState = .blanking ∧ s.cfg.runEnd ≤ s.ib.quietCount ∧ s.ib.runLength < 1024)
    ∧ (let s := { blanking with ib := { blanking.ib with runLength := 1024 } }
       running s ∧ s.ib.runState = .blanking ∧ 1024 ≤ s.ib.runLength)
    ∧ (running (windowEnds .none) ∧ (windowEnds .none).ib.prediction = .armed 249976#32 932730#32 0
      ∧ (windowEnds .none).ib.miss = .none ∧ (windowEnds .none).ib.stamp = 932730#32 + 249976#32 + 65#32)
    ∧ (let s := run (.sample 0#12) (windowEnds .none)
       running s ∧ s.ib.prediction = .armed 249976#32 932730#32 0 ∧ s.ib.miss = .owed
       ∧ exec .predictionMiss s = .next (run .predictionMiss s))
    ∧ (running (windowEnds .taken) ∧ (windowEnds .taken).ib.miss ≠ .owed ∧ (windowEnds .taken).ib.miss = .taken)
    ∧ (let s := { windowEnds .none with ib := { (windowEnds .none).ib with stamp := 1182770#32 } }
       running s ∧ s.ib.miss ≠ .owed ∧ s.ib.stamp ≠ 932730#32 + 249976#32 + 65#32)
    ∧ predictionAfterEvent 0#32 [0#32, 256#32, 512#32, 768#32] .unarmed = .armed 256#32 768#32 0
    ∧ (0 : Nat) ≤ 128 ∧ (128 : Nat) ≤ 128
    ∧ 128 < ((932769#32 : Stamp) - (682754#32 + 249950#32) + 64#32).toNat := by
  unfold running
  refine ⟨by decide, by decide, by decide, ⟨by decide, by decide +kernel, by decide +kernel, rfl⟩, by decide, by decide,
    by decide, by decide, by decide, by decide⟩

/-- A block has just ended in an acquisition state. -/
def measured (a : AcqState) (energy : Nat) : State :=
  { withAcq a ready with gau := { (withAcq a ready).gau with blockCount := 1024, blockBlanked := 512, blockEnergy := energy } }

theorem witness_MeasurementSetsPendingDuty :
    running (measured .gain 0) ∧ (measured .gain 0).gau.acq ≠ .idle ∧ (measured .gain 0).gau.blockCount = 1024
    ∧ (measured .gain 0).gau.blockBlanked ≤ 512 := by
  unfold running; decide

theorem witness_LevelMeasuredAndDutyOutput :
    (0 < 1 ∧ (-(measuredLevel 1048576 1)).toNat = 61 ∧ 61 < 900 ∧ 60 < (-(measuredLevel 1048576 1)).toNat)
    ∧ running ready ∧ ready.gau.appliedDuty ≤ 1023 ∧ { ready.gau with appliedDuty := 1023 }.appliedDuty ≤ 1023
    ∧ gainHigh ready 511 = true ∧ gainHigh ready 512 = false := by
  unfold running; decide +kernel

theorem witness_GainMeasurementMovesAcquisition :
    (let s := { measured .gain 68000000 with gau := { (measured .gain 68000000).gau with settleRun := 7, measurementCount := 199 } }
     running s ∧ s.gau.acq = .gain ∧ s.gau.blockCount = 1024 ∧ s.gau.settleRun ≤ 7 ∧ s.gau.measurementCount ≤ 199
     ∧ s.gau.blockBlanked ≤ 512
     ∧ (gainError s.gau.blockEnergy (1024 - s.gau.blockBlanked)).natAbs ≤ 10 ∧ s.gau.settleRun = 7)
    ∧ (let s := { measured .gain 0 with gau := { (measured .gain 0).gau with measurementCount := 199 } }
       running s ∧ s.gau.acq = .gain ∧ s.gau.blockCount = 1024 ∧ s.gau.settleRun ≤ 7 ∧ s.gau.measurementCount = 199
       ∧ ¬((s.gau.blockBlanked ≤ 512 ∧ (gainError s.gau.blockEnergy (1024 - s.gau.blockBlanked)).natAbs ≤ 10)
          ∧ s.gau.settleRun = 7))
    ∧ (let s := { measured .gain 68000000 with gau := { (measured .gain 68000000).gau with measurementCount := 198 } }
       (s.gau.blockBlanked ≤ 512 ∧ (gainError s.gau.blockEnergy (1024 - s.gau.blockBlanked)).natAbs ≤ 10)
       ∧ s.gau.settleRun < 7 ∧ s.gau.measurementCount < 199)
    ∧ (let s := { measured .gain 0 with gau := { (measured .gain 0).gau with blockBlanked := 513 } }
       running s ∧ s.gau.acq ≠ .idle ∧ s.gau.blockCount = 1024 ∧ 512 < s.gau.blockBlanked ∧ s.gau.measurementCount < 199
       ∧ s.gau.settleRun ≤ 7)
    ∧ (let s := { measured .track 0 with gau := { (measured .track 0).gau with appliedDuty := 1023, clipRun := 63 } }
       running s ∧ s.gau.acq = .track ∧ s.gau.blockCount = 1024 ∧ s.gau.blockBlanked ≤ 512
       ∧ s.gau.appliedDuty = 1023 ∧ gainStep (gainError s.gau.blockEnergy (1024 - s.gau.blockBlanked)) < 0
       ∧ s.gau.clipRun = 63)
    ∧ (let s := { measured .track 0 with gau := { (measured .track 0).gau with appliedDuty := 1023, clipRun := 62 } }
       s.gau.appliedDuty = 1023 ∧ gainStep (gainError s.gau.blockEnergy (1024 - s.gau.blockBlanked)) < 0 ∧ s.gau.clipRun < 63)
    ∧ (let s := { measured .track 2147483648 with gau := { (measured .track 2147483648).gau with appliedDuty := 0, clipRun := 63 } }
       s.gau.appliedDuty = 0 ∧ 0 < gainStep (gainError s.gau.blockEnergy (1024 - s.gau.blockBlanked)))
    ∧ (let s := measured .track 0
       ¬((s.gau.appliedDuty = 0 ∧ 0 < gainStep (gainError s.gau.blockEnergy (1024 - s.gau.blockBlanked)))
         ∨ (s.gau.appliedDuty = 1023 ∧ gainStep (gainError s.gau.blockEnergy (1024 - s.gau.blockBlanked)) < 0)))
    := by
  unfold running; decide +kernel

/-- A trial of silence has ended, with short 1/4 pinned. -/
def trialOver (threshold failed : Nat) : State :=
  { withAcq .symbol ready with
      cfg := { ready.cfg with detectThreshold := threshold, pinned := some ⟨.short, .quarter⟩ }
      gau := { (withAcq .symbol ready).gau with trialSamples := Array.replicate trialLength 0#12, failedTrials := failed } }

/-- What the pinned candidate scores in that trial. -/
def silentScore : TrialScore := trialScore 0 (Array.replicate trialLength 0#12) ⟨.short, .quarter⟩

theorem trialOver_choice (threshold failed : Nat) :
    trialChoice (trialOver threshold failed) = chooseCandidate threshold [silentScore] := by
  simp only [trialChoice, trialOver, scoredCandidates, List.map, silentScore, withAcq, ready, up, State.reset]

theorem silentScore_le : silentScore.score ≤ 4095 := by
  simp only [silentScore, trialScore, scoreOf]
  split <;> exact Nat.min_le_left ..

theorem witness_TrialEndTakesFirstBestScore :
    chooseCandidate 48 [⟨long32, 70, 5⟩, ⟨⟨.long, .sixteenth⟩, 70, 3⟩] = some ⟨long32, 70, 5⟩
    ∧ running (trialOver 0 0) ∧ (trialOver 0 0).gau.acq = .symbol
    ∧ (trialOver 0 0).gau.trialSamples.size = trialLength ∧ trialChoice (trialOver 0 0) = some silentScore := by
  refine ⟨by decide, ⟨rfl, rfl⟩, rfl, Array.size_replicate, ?_⟩
  rw [trialOver_choice]
  generalize silentScore = x
  simp [chooseCandidate, bestOf]

theorem witness_TrialEndTakesFirstBestScore_failed (n : Nat) :
    (trialOver 4096 n).gau.trialSamples.size = trialLength ∧ (trialOver 4096 n).gau.failedTrials = n
    ∧ trialChoice (trialOver 4096 n) = none := by
  refine ⟨Array.size_replicate, rfl, ?_⟩
  rw [trialOver_choice]
  have h := silentScore_le
  generalize silentScore = x at h
  have h' : ¬4096 ≤ x.score := by omega
  simp [chooseCandidate, bestOf, h']

theorem witness_TrialEndTakesFirstBestScore_all :
    ready.cfg.pinned = none ∧ (trialOver 0 0).cfg.pinned = some ⟨.short, .quarter⟩ := by decide

/-- The accumulated value of a residue, as `TrialScoresItsSamples` writes it, in a trial where every sample is `v`. -/
def flatValue (v : Sample) (r : Nat) : Nat :=
  let x := Array.replicate trialLength v
  let c : Candidate := ⟨.short, .quarter⟩
  (((List.range (40960 - symbolLength c + 1)).filter fun p => decide (p % symbolLength c = r)).map fun p =>
    (((List.range (guardLength c)).map fun i =>
      (x.getD (p + i) 0#12).toInt * (x.getD (p + usefulLength c + i) 0#12).toInt).sum).natAbs).sum

theorem flat_getD (v : Sample) (i : Nat) (h : i < trialLength) : (Array.replicate trialLength v).getD i 0#12 = v := by
  simp [Array.getD, h]

theorem silent_getD (i : Nat) : (Array.replicate trialLength 0#12).getD i 0#12 = 0#12 := by
  simp [Array.getD]

theorem witness_TrialScoresItsSamples_silent : ((List.range 2560).map (flatValue 0#12)).sum = 0 := by
  have h (r : Nat) : flatValue 0#12 r = 0 := by
    simp only [flatValue, silent_getD]
    refine List.sum_eq_zero_iff.mpr fun x hx => ?_
    obtain ⟨p, -, rfl⟩ := List.mem_map.mp hx
    simp
  refine List.sum_eq_zero_iff.mpr fun x hx => ?_
  obtain ⟨r, -, rfl⟩ := List.mem_map.mp hx
  exact h r

theorem witness_TrialScoresItsSamples_flat : 0 < ((List.range 2560).map (flatValue 1#12)).sum := by
  have h : (((List.range 512).map fun i => ((Array.replicate trialLength 1#12).getD (0 + i) 0#12).toInt
      * ((Array.replicate trialLength 1#12).getD (0 + 2048 + i) 0#12).toInt).sum).natAbs = 512 := by
    rw [List.map_congr_left (g := fun _ => 1) fun i hi => ?_]
    · rw [List.map_const', List.sum_replicate, List.length_range]; rfl
    · have := List.mem_range.mp hi
      rw [flat_getD, flat_getD]
      · rfl
      all_goals (unfold trialLength; omega)
  refine Nat.pos_of_ne_zero fun hz => ?_
  have h0 := List.sum_eq_zero_iff.mp hz _ (List.mem_map_of_mem (List.mem_range.mpr (by decide : 0 < 2560)))
  have h1 := List.sum_eq_zero_iff.mp h0 _ (List.mem_map_of_mem (a := 0) (by simp))
  exact absurd (h.symm.trans h1) (by decide)

theorem witness_TrialScoresItsSamples :
    (running (withAcq .symbol ready) ∧ nothingDue (withAcq .symbol ready) ∧ (withAcq .symbol ready).gau.acq = .symbol)
    ∧ (running listening ∧ nothingDue listening ∧ listening.gau.acq ≠ .symbol) := by
  unfold running nothingDue attemptSettled noCountDue; decide

/-- In FRAME, in SEARCH at the 64th boundary. -/
def searched (passes : Nat) : State :=
  { withAcq .frame ready with gau := { (withAcq .frame ready).gau with searchCount := 64, passCount := passes } }

theorem witness_PassesAndHoldLimitFallBack :
    running (searched 1) ∧ (searched 1).gau.acq = .frame ∧ (searched 1).gau.subState = .search
    ∧ (searched 1).gau.searchCount = 64 ∧ (searched 1).gau.passCount < 2 ∧ (searched 2).gau.passCount = 2
    ∧ (let s := { holding with gau := { holding.gau with holdCount := 32 } }
       running s ∧ s.gau.acq = .hold ∧ s.gau.holdCount = s.cfg.holdLimit) := by
  unfold running; decide

/-- In CONFIRM with a candidate. -/
def confirming : State :=
  { withAcq .frame ready with gau := { (withAcq .frame ready).gau with subState := .confirm, candidate := some sig64 } }

/-- In TRACK with 64-point rate 2/3 and one sync missed. -/
def missedOnce : State := { tracking with gau := { tracking.gau with current := some sig64, syncMissRun := 1 } }

theorem witness_SignallingReportsMoveAcquisition :
    (running (searched 1) ∧ (searched 1).gau.acq = .frame ∧ (searched 1).gau.subState = .search
      ∧ boundaryDue (searched 1).wu = false ∧ (searched 1).gau.searchCount = 64 ∧ (searched 1).gau.passCount < 2
      ∧ (searched 2).gau.passCount = 2 ∧ { (searched 1).gau with searchCount := 63 }.searchCount < 64)
    ∧ ¬(tracking.gau.acq = .frame ∧ tracking.gau.subState = .search)
    ∧ (let s := { atBoundary (searched 1) with gau := { (searched 1).gau with searchCount := 63 } }
       running s ∧ s.gau.acq = .frame ∧ s.gau.subState = .search ∧ boundaryDue s.wu = true ∧ s.gau.searchCount = 63
       ∧ s.gau.passCount < 2 ∧ exec (.symbolBoundary true) s = .next (run (.symbolBoundary true) s))
    ∧ (running confirming ∧ confirming.gau.acq = .frame ∧ confirming.gau.subState = .confirm
      ∧ confirming.gau.candidate = some sig64 ∧ attemptSettled confirming ∧ confirming.gau.passCount < 2
      ∧ (some ⟨.point4, .rate1_2⟩ : Option Signalling) ≠ confirming.gau.candidate
      ∧ { confirming.gau with passCount := 2 }.passCount = 2)
    ∧ (running missedOnce ∧ missedOnce.gau.acq = .track ∧ missedOnce.gau.current = some sig64
      ∧ attemptSettled missedOnce ∧ missedOnce.gau.syncMissRun = 1 ∧ missedOnce.gau.current ≠ some ⟨.point4, .rate1_2⟩)
    ∧ (running tracking ∧ tracking.gau.acq = .track ∧ tracking.gau.syncMissRun = 0 ∧ attemptSettled tracking)
    ∧ (running holding ∧ holding.gau.acq = .hold ∧ holding.gau.current ≠ some sig64)
    ∧ (running holding ∧ holding.gau.acq = .hold ∧ attemptSettled holding
      ∧ (⟨true, none⟩ : FrameReport).syncPresent = true ∧ (⟨false, none⟩ : FrameReport).syncPresent = false) := by
  unfold running attemptSettled
  refine ⟨by decide, by decide, ⟨by decide, rfl, rfl, by decide, rfl, by decide, rfl⟩, by decide, by decide, by decide,
    by decide, by decide⟩

theorem witness_BoundaryAdvancesAndTransfers :
    (let s := atBoundary { tracking with wu := { tracking.wu with symbolIndex := 63, frameCounter := 65535 } }
     running s ∧ noCountDue s ∧ boundaryDue s.wu = true ∧ s.wu.symbolIndex ≤ 63 ∧ s.wu.frameCounter ≤ 65535
     ∧ s.wu.presetDue = false ∧ s.gau.acq = .track ∧ measurementDue s = false)
    ∧ (let s := atBoundary { tracking with wu := { tracking.wu with presetDue := true } }
       running s ∧ noCountDue s ∧ boundaryDue s.wu = true ∧ s.wu.presetDue = true)
    ∧ (running tracking ∧ boundaryDue tracking.wu = false ∧ noCountDue tracking ∧ attemptSettled tracking)
    ∧ ({ peak := 0, period := 8448, position := 8447, taken := true } : Grid).position < 8448
    ∧ (let s := atBoundary { tracking with wu := { tracking.wu with mark := .step, pendingPos := 8 } }
       running s ∧ s.gau.acq = .track ∧ boundaryDue s.wu = true ∧ s.wu.presetDue = false ∧ s.wu.mark = .step)
    ∧ (let s := atBoundary { tracking with wu := { tracking.wu with mark := .jump, symbolIndex := 63 } }
       s.gau.acq = .track ∧ boundaryDue s.wu = true ∧ s.wu.presetDue = false ∧ s.wu.mark = .jump ∧ s.wu.symbolIndex = 63)
    ∧ (let s := atBoundary { tracking with wu := { tracking.wu with mark := .jump, symbolIndex := 62 } }
       s.gau.acq = .track ∧ boundaryDue s.wu = true ∧ s.wu.presetDue = false ∧ s.wu.mark = .jump
       ∧ s.wu.symbolIndex < 63) := by
  unfold running noCountDue attemptSettled; decide

/-- At a boundary whose symbol's MER came ahead of it. -/
def merAhead (s : State) : State :=
  atBoundary { s with pru := { s.pru with slot := { mer := some 400, verdict := none, ahead := true } } }

theorem witness_BoundaryJudgesSymbol :
    (let s := atBoundary { tracking with ib := { tracking.ib with blankedCount := 512 } }
     running s ∧ noCountDue s ∧ boundaryDue s.wu = true ∧ s.gau.held = some long32 ∧ s.ib.firstBoundary = false
     ∧ s.ib.burstRun ≤ 7 ∧ s.ib.blankedCount ≤ erasureLimit s.cfg.eraseFraction long32)
    ∧ (let s := { tracking with ib := { tracking.ib with blankedCount := 513, burstRun := 6 } }
       erasureLimit s.cfg.eraseFraction long32 < s.ib.blankedCount ∧ s.ib.burstRun < 7)
    ∧ (let s := atBoundary { tracking with ib := { tracking.ib with blankedCount := 513, burstRun := 7 } }
       running s ∧ noCountDue s ∧ boundaryDue s.wu = true ∧ erasureLimit s.cfg.eraseFraction long32 < s.ib.blankedCount
       ∧ s.ib.burstRun = 7)
    ∧ (let s := merAhead tracking
       running s ∧ noCountDue s ∧ boundaryDue s.wu = true ∧ s.gau.held = some long32 ∧ s.ib.firstBoundary = false
       ∧ s.ib.burstRun ≤ 7 ∧ s.pru.slot.ahead = true ∧ s.pru.slot.mer = some 400 ∧ s.gau.acq = .track ∧ s.wu.mark ≠ .jump)
    ∧ (let s := merAhead { tracking with wu := { tracking.wu with mark := .jump, symbolIndex := 63 } }
       running s ∧ noCountDue s ∧ boundaryDue s.wu = true ∧ s.ib.firstBoundary = false ∧ s.pru.slot.ahead = true
       ∧ s.pru.slot.mer = some 400 ∧ s.gau.acq = .track ∧ s.wu.mark = .jump ∧ s.wu.presetDue = false ∧ s.wu.symbolIndex = 63)
    ∧ (let s := merAhead holding
       running s ∧ noCountDue s ∧ boundaryDue s.wu = true ∧ s.gau.held = some long32 ∧ s.ib.firstBoundary = false
       ∧ s.pru.slot.ahead = true ∧ s.pru.slot.mer = some 400 ∧ s.gau.acq ≠ .track)
    ∧ (atBoundary tracking).pru.slot.ahead = false
    ∧ (let s := atBoundary { tracking with ib := { tracking.ib with firstBoundary := true } }
       running s ∧ noCountDue s ∧ boundaryDue s.wu = true ∧ s.gau.held = some long32 ∧ s.ib.firstBoundary = true) := by
  unfold running noCountDue; decide

/-- With the path list of the worked placement, and the window at 200. -/
def placing : State :=
  { tracking with wu := { tracking.wu with
      paths := [⟨0, 40000, .confirmed, 0⟩, ⟨180, 12000, .confirmed, 0⟩, ⟨300, 5000, .confirmed, 0⟩], applied := 200 } }

/-- The reported peaks of the update that leaves that list as it stands. -/
def steady : List Peak := [⟨0, 40000⟩, ⟨180, 12000⟩, ⟨300, 5000⟩]

/-- A full path list whose weakest NEW or FADING entry is the third. -/
def fullList : List Path :=
  [⟨0, 40000, .confirmed, 0⟩, ⟨5, 300, .fading, 7⟩, ⟨10, 200, .new, 0⟩, ⟨20, 200, .fading, 1⟩, ⟨30, 100, .confirmed, 0⟩,
   ⟨40, 900, .confirmed, 0⟩, ⟨50, 900, .confirmed, 0⟩, ⟨60, 900, .confirmed, 0⟩]

theorem witness_ProfileUpdateTakenOrSetAside :
    (running confirming ∧ confirming.gau.acq ≠ .track ∧ confirming.gau.acq ≠ .hold) ∧
    (let s := { tracking with wu := { tracking.wu with erasedCount := 2 } }
     running s ∧ s.gau.acq = .track ∧ s.gau.held = some long32 ∧ 2 ≤ s.wu.erasedCount)
    ∧ (running placing ∧ placing.gau.acq = .track ∧ placing.gau.held = some long32 ∧ placing.wu.erasedCount ≤ 1
      ∧ windowTarget (guardLength long32) (run (.profileUpdate steady) placing).wu.paths = some 256
      ∧ 2 * ((256 : Int) - placing.wu.applied).natAbs ≤ guardLength long32)
    ∧ (let s := { placing with wu := { placing.wu with applied := 127 } }
       windowTarget (guardLength long32) (run (.profileUpdate steady) s).wu.paths = some 256
       ∧ guardLength long32 < 2 * ((256 : Int) - s.wu.applied).natAbs)
    ∧ windowTarget (guardLength long32) (run (.profileUpdate []) tracking).wu.paths = none
    ∧ (pathsSound fullList ∧ fullList.length = 8
      ∧ fullList = [] ++ ⟨0, 40000, .confirmed, 0⟩ :: fullList.drop 1 ∧ ((0 : Int) - -4).natAbs ≤ 4
      ∧ apart (-4) (fullList.drop 1)
      ∧ fullList = [] ++ ⟨0, 40000, .confirmed, 0⟩ :: ⟨5, 300, .fading, 7⟩ :: fullList.drop 2
      ∧ ((0 : Int) - 2).natAbs ≤ 4 ∧ ((5 : Int) - 2).natAbs ≤ 4
      ∧ apart 25 fullList ∧ fullList = fullList.take 2 ++ ⟨10, 200, .new, 0⟩ :: fullList.drop 3
      ∧ (∀ x ∈ fullList.take 2, x.state ≠ .confirmed → 200 < x.power)
      ∧ (∀ x ∈ fullList.drop 3, x.state ≠ .confirmed → 200 ≤ x.power)
      ∧ (∀ x ∈ fullList, x.state ≠ .confirmed → 200 ≤ x.power)
      ∧ ((25 : Int) - 26).natAbs ≤ 4 ∧ apart 25 fullList ∧ apart (-4) (fullList.drop 1) ∧ apart (-3) (fullList.drop 1))
    ∧ (pathsSound placing.wu.paths ∧ placing.wu.paths.length < 8 ∧ apart 5 placing.wu.paths
      ∧ placing.wu.paths = [⟨0, 40000, .confirmed, 0⟩] ++ placing.wu.paths.drop 1
      ∧ (∀ x ∈ placing.wu.paths.drop 1, 5 < x.delay)) := by
  unfold running pathsSound spaced pathInRange apart
  refine ⟨?_, ?_, ?_, ?_, ?_, ?_, ?_⟩ <;> decide +kernel

/-- The participating entries of a path list, as the two statements on placement write them. -/
def taking' (paths : List Path) : List Path := paths.filter fun p => decide (p.state = .confirmed ∨ p.state = .fading)

theorem witness_SpillSumsPathsOutside :
    (⟨300, 5000, .confirmed, 0⟩ : Path) ∈ (taking' placing.wu.paths).filter
        (fun p => decide (¬((236 : Int) - 256 ≤ p.delay ∧ p.delay ≤ 236)))
    ∧ 64 ≤ distanceOutside 256 236 300
    ∧ (taking' placing.wu.paths).length ≤ 8 ∧ (∀ p ∈ taking' placing.wu.paths, p.power ≤ 65535) := by
  decide +kernel

theorem witness_TargetHasLeastSpill :
    windowTarget 256 placing.wu.paths = some 256 ∧ (⟨300, 5000, .confirmed, 0⟩ : Path) ∈ taking' placing.wu.paths
    ∧ windowTarget 256 [] = none ∧ windowTarget 256 [⟨300, 5000, .new, 0⟩] = none := by decide +kernel

theorem witness_MerCompletesSymbol :
    (running tracking ∧ tracking.wu.grid.isSome = true ∧ boundaryDue tracking.wu = false
      ∧ tracking.pru.slot.verdict = none)
    ∧ (running (atBoundary tracking) ∧ (atBoundary tracking).wu.grid.isSome = true
      ∧ boundaryDue (atBoundary tracking).wu = true
      ∧ exec (.symbolBoundary true) (atBoundary tracking) = .next (run (.symbolBoundary true) (atBoundary tracking)))
    ∧ (let s := { tracking with pru := { tracking.pru with slot := { mer := none, verdict := some true, ahead := false } } }
       s.pru.slot.verdict = some true ∧ s.gau.acq = .track)
    ∧ (let s := { holding with pru := { holding.pru with slot := { mer := none, verdict := some false, ahead := false } } }
       running s ∧ s.wu.grid.isSome = true ∧ boundaryDue s.wu = false ∧ s.pru.slot.verdict = some false
       ∧ s.gau.acq ≠ .track) := by
  unfold running
  refine ⟨by decide, ⟨by decide, by decide, by decide, rfl⟩, by decide, by decide⟩

theorem witness_PenaltiesFollowErroredShares :
    (⟨0, 0, 1, 0, 1, 0⟩ : Tallies).allPackets = 1 ∧ (⟨0, 0, 1, 0, 1, 0⟩ : Tallies).allSymbols = 1
    ∧ Tallies.zero.allPackets = 0 ∧ Tallies.zero.allSymbols = 0 ∧ Tallies.zero.cleanSymbols = 0 := by decide

theorem witness_RawMeritStaysInRange :
    (let t : Tallies := ⟨467, 1, 1, 0, 1, 0⟩
     t.erroredPackets = 0 ∧ t.erasedSymbols = 0 ∧ 0 < t.allPackets ∧ 0 < t.allSymbols
     ∧ requiredMer sig64 + 300 ≤ meanMer t)
    ∧ (let t : Tallies := ⟨0, 0, 1, 1, 1, 0⟩
       t.cleanSymbols = 0 ∧ 0 < t.allSymbols ∧ t.erasedSymbols = t.allSymbols ∧ 0 < t.erasedSymbols)
    ∧ 0 < (⟨467, 1, 1, 0, 1, 1⟩ : Tallies).erroredPackets
    ∧ (⟨467, 1, 1, 0, 0, 0⟩ : Tallies).allPackets = 0
    ∧ (let t : Tallies := ⟨0, 0, 0, 0, 1, 0⟩
       t.erroredPackets = 0 ∧ t.erasedSymbols = 0 ∧ 0 < t.allPackets ∧ t.allSymbols = 0) := by decide

theorem witness_PacketsOutsideTrackAreWithheld :
    (let s := { holding with pru := { holding.pru with errorRun := 62 } }
     running s ∧ attemptSettled s ∧ s.gau.acq = .hold ∧ (errored 5)[1].msb = true ∧ s.pru.errorRun < 63)
    ∧ ((packet 5)[1].msb = false ∧ atOnce.uncorrectable = false)
    ∧ (let s := { holding with pru := { holding.pru with errorRun := 63 } }
       running s ∧ attemptSettled s ∧ s.gau.acq = .hold ∧ s.pru.errorRun = 63)
    ∧ atOnce.reportLater = false ∧ { atOnce with reportLater := true }.reportLater = true
    ∧ (running confirming ∧ attemptSettled confirming ∧ confirming.gau.acq ≠ .track
      ∧ confirming.gau.acq ≠ .hold) := by
  unfold running attemptSettled; decide +kernel

/-- An OWNER whose table holds one ACTIVE and one SUSPENDED entry. -/
def serving : State :=
  { owner with services := [entry 5 1 (.fixed 900) .premium,
      { entry 6 1 .keep .spare with suspension := .suspended 2000 }] }

theorem witness_LookupEndsOrRoutesPackets :
    (running serving ∧ serving.gau.acq = .track ∧ atOnce.recordLater = false ∧ attemptSettled serving
      ∧ (errored 4)[1].msb = true ∧ serving.pru.errorRun < 63)
    ∧ serving.services.find? (covers (packetIdentifier (packet 4))) = none
    ∧ packetIdentifier ((packet 255).set 1 0x1F#8) = 8191
    ∧ packetIdentifier (packet 6) ≠ 8191
    ∧ serving.services.find? (covers (packetIdentifier (packet 6)))
        = some { entry 6 1 .keep .spare with suspension := .suspended 2000 }
    ∧ packetIdentifier (packet 5) ≠ 8191
    ∧ serving.services = [] ++ entry 5 1 (.fixed 900) .premium :: serving.services.drop 1
    ∧ covers (packetIdentifier (packet 5)) (entry 5 1 (.fixed 900) .premium) = true
    ∧ (let s := withRole .standby { serving with pru := { serving.pru with errorRun := 63 } }
       running s ∧ s.gau.acq = .track ∧ attemptSettled s ∧ s.pru.errorRun = 63 ∧ s.ou.role = .standby
       ∧ atOnce.reportLater = false) := by
  unfold running attemptSettled; decide +kernel

theorem witness_RecordsMoveRingAndLead :
    ((standby.ou.role = .standby ∧ standby.hbu.lead = [] ∧ storesSound standby.hbu)
      ∧ (let s := { standby with hbu := { standby.hbu with ring := List.replicate 128 (stored 1#16) } }
         s.ou.role = .standby ∧ s.hbu.lead = [] ∧ storesSound s.hbu)
      ∧ (let s := { taking with hbu := { taking.hbu with lead := [6#16, 7#16] } }
         s.ou.role = .taking ∧ s.hbu.lead ≠ [] ∧ storesSound s.hbu
         ∧ s.hbu.lead = [6#16] ++ (stored 7#16).signature :: [] ∧ (stored 7#16).signature ∉ [6#16]
         ∧ (stored 8#16).signature ∉ s.hbu.lead ∧ (stored 8#16).errored = false))
    ∧ (let s := { owner with hbu := { owner.hbu with phase := .catchUp, lead := [6#16, 7#16], catchUpCount := 62 } }
       s.ou.role = .owner ∧ s.hbu.phase = .catchUp ∧ s.hbu.catchUpCount + 1 < s.cfg.catchUpLimit
       ∧ s.hbu.lead = [] ++ (stored 6#16).signature :: [7#16]
       ∧ s.hbu.lead = [6#16] ++ (stored 7#16).signature :: [])
    ∧ (let s := { owner with
          hbu := { owner.hbu with phase := .drain, ring := List.replicate 127 (stored 1#16) }
          ri := { owner.ri with premium := List.replicate 6 (queued .premium) } }
       s.ou.role = .owner ∧ s.hbu.phase = .drain
       ∧ s.hbu.ring = stored 1#16 :: stored 1#16 :: List.replicate 125 (stored 1#16) ∧ s.hbu.ring.length ≤ 127
       ∧ ({ stored 2#16 with stamp := 1023 }.stamp + 4194304 - (stored 1#16).stamp) % 4194304 < 1024
       ∧ (stored 1#16).cls = .premium ∧ s.ri.premium.length ≤ 6)
    ∧ ready.ou.role = .absent ∧ (withRole .yielding holding).ou.role = .yielding := by
  unfold storesSound
  repeat' apply And.intro
  all_goals first | rfl | decide +kernel

/-- OWNER in CATCH_UP with two lead signatures held, `n` records counted. -/
def catching (n : Nat) : State :=
  { owner with hbu := { owner.hbu with phase := .catchUp, lead := [6#16, 7#16], catchUpCount := n } }

/-- OWNER in DRAIN with a ring and a PREMIUM queue of `n` packets. -/
def draining (ring : List RingEntry) (n : Nat) : State :=
  { owner with
      hbu := { owner.hbu with phase := .drain, ring := ring }
      ri := { owner.ri with premium := List.replicate n (queued .premium) } }

/-- An entry 1024 symbols old or more at a record. -/
def old (r e : RingEntry) : Bool := decide (1024 ≤ (r.stamp + 4194304 - e.stamp) % 4194304)

/-- The PREMIUM queue of `s` has no room. -/
def premiumFull (s : State) : Prop :=
  passesTest .premium s ∧ queueCapacity .premium ≤ (queueOf .premium s.ri).length

theorem witness_DrainOffersAndHandoverGaps :
    ((catching 63).ou.role = .owner ∧ (catching 63).hbu.phase = .catchUp
      ∧ (catching 63).cfg.catchUpLimit ≤ (catching 63).hbu.catchUpCount + 1)
    ∧ ((catching 0).ou.role = .owner ∧ (catching 0).hbu.phase = .catchUp
      ∧ (stored 8#16).errored = false ∧ (stored 8#16).signature ∉ (catching 0).hbu.lead)
    ∧ (let s := draining [stored 1#16] 8
       s.ou.role = .owner ∧ s.hbu.phase = .drain ∧ s.hbu.ring = stored 1#16 :: [] ∧ premiumFull s)
    ∧ (let s := draining [stored 1#16] 7
       s.hbu.ring = [stored 1#16] ∧ ¬premiumFull s)
    ∧ (let s := draining [{ stored 1#16 with cls := .spare }] 8
       ¬passesTest .spare s)
    ∧ (let s := draining [stored 1#16, stored 2#16] 7
       s.hbu.ring = stored 1#16 :: stored 2#16 :: [] ∧ ¬premiumFull s
       ∧ premiumFull (takeRecord (stored 1#16) { s with hbu := { s.hbu with phase := .live } }))
    ∧ (let s := draining [stored 1#16, stored 2#16] 6
       ¬premiumFull (takeRecord (stored 1#16) { s with hbu := { s.hbu with phase := .live } }))
    ∧ (let s := draining [stored 1#16, stored 2#16, stored 3#16] 6
       s.hbu.ring = stored 1#16 :: stored 2#16 :: [stored 3#16] ∧ ¬premiumFull s
       ∧ ¬premiumFull (takeRecord (stored 1#16) { s with hbu := { s.hbu with phase := .live } }))
    ∧ (let s := draining (List.replicate 128 (stored 1#16)) 0
       let r := { stored 2#16 with stamp := 1023 }
       s.ou.role = .owner ∧ s.hbu.phase = .drain ∧ s.hbu.ring.length ≤ 128
       ∧ (s.hbu.ring.dropWhile (old r)).length = 128)
    ∧ (let s := draining [stored 1#16] 0
       let r := { stored 2#16 with stamp := 1024 }
       s.hbu.ring.length ≤ 128
       ∧ (s.hbu.ring.dropWhile (old r)) = []
       ∧ 0 < (s.hbu.ring.takeWhile (old r)).countP
           fun e => decide (e.cls = .premium))
    ∧ (let s := withTx (.transmitting (.payload (header 0 5 1#16) (packet 5))) (draining [stored 1#16] 0)
       running s ∧ s.ri.tx = .transmitting (.payload (header 0 5 1#16) (packet 5)) ∧ s.ou.role = .owner
       ∧ s.hbu.phase = .drain) := by
  unfold running premiumFull passesTest
  repeat' apply And.intro
  all_goals first | rfl | decide +kernel

theorem witness_OwnerAdmitsByCredit :
    owner.ou.role = .owner ∧ owner.hbu.phase = .live
    ∧ (stored 1#16).cls = .premium ∧ (queueOf (stored 1#16).cls owner.ri).length < queueCapacity (stored 1#16).cls
    ∧ (let s := { owner with sau := { owner.sau with credit := 99 } }
       ¬((100 : Int) ≤ s.sau.credit)) ∧ (let s := { owner with sau := { owner.sau with credit := 500 } }
       100 + 50 * (s.cfg.burst : Int) ≤ s.sau.credit) := by decide

/-- A record of class PREMIUM on its way to the share and admission unit. -/
def onItsWay (s : State) : State := { s with waiting := { record := some (.admission, stored 1#16), burst := false } }

theorem witness_WaitingPartsAreTaken :
    ((onItsWay owner).resetLow = false ∧ Instr.runEnd ≠ .reset ∧ (∀ straps, Instr.runEnd ≠ .resetEnd straps)
      ∧ (∀ p r, Instr.runEnd ≠ .packetDecoded p r) ∧ exec .runEnd (onItsWay owner) = .next (run .runEnd (onItsWay owner)))
    ∧ (onItsWay owner).waiting.record = some (.admission, stored 1#16)
    ∧ (let s := { serving with pru := { serving.pru with errorRun := 63 } }
       running s ∧ s.gau.acq = .track ∧ s.pru.errorRun = 63 ∧ (errored 5)[1].msb = true ∧ atOnce.recordLater = false
       ∧ { atOnce with reportLater := true }.reportLater = true ∧ atOnce.reportLater = false)
    ∧ ((onItsWay standby).ou.role ≠ .owner
      ∧ (onItsWay standby).waiting = { record := some (.admission, stored 1#16), burst := false })
    ∧ (let b := run (.packetDecoded (packet 5) { atOnce with recordLater := true }) serving
       running serving ∧ serving.gau.acq = .track ∧ serving.ou.role = .owner ∧ serving.hbu.phase = .live
       ∧ serving.silence = false ∧ packetIdentifier (packet 5) ≠ 8191 ∧ (packet 5)[1].msb = false
       ∧ serving.services[0]? = some (entry 5 1 (.fixed 900) .premium)
       ∧ covers (packetIdentifier (packet 5)) (entry 5 1 (.fixed 900) .premium) = true
       ∧ (entry 5 1 (.fixed 900) .premium).suspension = .active
       ∧ b.waiting.record.isSome = true ∧ exec .silenceAssert b = .next (run .silenceAssert b))
    ∧ ((onItsWay owner).ou.role = .owner ∧ (onItsWay owner).sau.ticking = true) := by
  unfold running
  refine ⟨⟨rfl, by decide, by decide, (fun _ _ h => by injection h), rfl⟩, rfl, by decide +kernel, ⟨by decide, rfl⟩,
    ⟨by decide, by decide, by decide, by decide, by decide, by decide +kernel, by decide +kernel, by decide +kernel,
      by decide +kernel, by decide, by decide +kernel, rfl⟩, by decide⟩

theorem witness_ReportExpiryClosesPeriod :
    running standby ∧ standby.ou.reportTimer = some 100 ∧ holding.gau.acq ≠ .track
    ∧ (let s := { standby with pru := { standby.pru with signalling := some sig64 } }
       s.gau.acq = .track ∧ s.pru.signalling = some sig64 ∧ s.pru.fresh = true)
    ∧ { standby.pru with fresh := false }.fresh = false := by
  unfold running; decide

/-- A STANDBY station whose period is graded 346 at this expiry, and that has seen the group empty at the one before. -/
def fit : State :=
  { standby with
      pru := { standby.pru with tallies := ⟨248500, 1022, 1024, 2, 2100, 3⟩, signalling := some sig64 }
      ou := { standby.ou with emptyMark := true } }

/-- The raw merit of that period (section "grading one period"). -/
def fitMerit : Nat := 346

theorem witness_PeriodicDecisionByRole :
    (running fit ∧ fit.ou.reportTimer = some 100 ∧ fit.ou.role = .standby
      ∧ (let t := run (.reportExpiry true) fit
         fit.gau.acq = .track ∧ fit.cfg.meritFloor ≤ t.pru.smoothed ∧ fit.silence = false ∧ fit.ri.clashHold = none
         ∧ t.ou.emptyMark = true ∧ t.ou.previousMark = true))
    ∧ ¬(standby.cfg.meritFloor ≤ (run (.reportExpiry true) standby).pru.smoothed)
    ∧ (let s := { fit with ou := { fit.ou with emptyMark := false } }
       (run (.reportExpiry true) s).ou.previousMark = false
       ∧ ∀ p ∈ (run (.reportExpiry true) s).ou.peers, ¬rivalOwning s p)
    ∧ (let s := withPeers [peer 3 .owner (fitMerit - 50)] fit
       let t := run (.reportExpiry true) s
       t.ou.emptyMark = false ∧ bestPeer (rivalOwning s) t.ou.peers { peer 3 .owner (fitMerit - 50) with age := 1 }
       ∧ t.pru.smoothed ≤ (fitMerit - 50) + s.cfg.hysteresis)
    ∧ (let s := withPeers [peer 3 .owner (fitMerit - 51)] fit
       let t := run (.reportExpiry true) s
       bestPeer (rivalOwning s) t.ou.peers { peer 3 .owner (fitMerit - 51) with age := 1 }
       ∧ (fitMerit - 51) + s.cfg.hysteresis < t.pru.smoothed ∧ s.ou.challengeCount + 1 < s.cfg.challengeLimit
       ∧ s.cfg.challengeLimit ≤ { s.ou with challengeCount := 2 }.challengeCount + 1)
    ∧ (let s := withPeers [peer 3 .standby 200] owner
       let t := run (.reportExpiry false) s
       running s ∧ s.ou.reportTimer = some 100 ∧ s.ou.role = .owner ∧ t.pru.smoothed < s.cfg.meritFloor
       ∧ bestPeer (qualifyingRival s) t.ou.peers { peer 3 .standby 200 with age := 1 })
    ∧ (∀ p ∈ (run (.reportExpiry false) owner).ou.peers, ¬qualifyingRival owner p)
    ∧ (taking.ou.role ≠ .standby ∧ taking.ou.role ≠ .owner ∧ taking.ou.reportTimer = some 100) := by
  unfold running rivalOwning qualifyingRival bestPeer
  refine ⟨?_, ?_, ?_, ?_, ?_, ?_, ?_, ?_⟩ <;> decide +kernel

theorem witness_RoleFollowsAcquisition :
    (running confirming ∧ confirming.gau.acq = .frame ∧ confirming.gau.subState = .confirm
      ∧ confirming.gau.candidate = some sig64 ∧ confirming.ou.role = .absent)
    ∧ (running missedOnce ∧ missedOnce.gau.acq = .track ∧ missedOnce.gau.syncMissRun = 1
      ∧ (withRole .standby missedOnce).ou.role = .standby ∧ (withRole .taking missedOnce).ou.role = .taking)
    ∧ (let s := withPeers [peer 3 .standby 200, peer 4 .standby 199] (withRole .owner missedOnce)
       s.ou.role = .owner ∧ bestPeer (qualifyingRival s) s.ou.peers (peer 3 .standby 200))
    ∧ (∀ p ∈ owner.ou.peers, ¬qualifyingRival owner p)
    ∧ (let s := { holding with gau := { holding.gau with holdCount := 32 } }
       running s ∧ s.gau.acq = .hold ∧ s.gau.holdCount = s.cfg.holdLimit)
    ∧ (missedOnce.gau.acq = .track ∧ missedOnce.gau.current ≠ some ⟨.point4, .rate1_2⟩) := by
  unfold running qualifyingRival bestPeer; decide

/-- The three cases of the share at their boundaries: effective demands 1000 and floors 500 against a budget at them, one below
the demands, one at the floors and one below them. -/
theorem witness_SharesKeepBudgetAndRaiseCredit :
    (running owner ∧ owner.sau.ticking = true)
    ∧ (let owners : List (Nat × Nat) := [(600, 200), (100, 300), (100, 0)]
       (owners.map fun o => max o.1 o.2).sum = 1000 ∧ (owners.map Prod.snd).sum = 500 ∧ owners ≠ []
       ∧ shareOf 1000 owners (600, 200) = 600 ∧ shareOf 999 owners (600, 200) = 599
       ∧ shareOf 500 owners (600, 200) = 200 ∧ shareOf 499 owners (600, 200) = 199) := by
  unfold running; decide

theorem witness_TimersAndHoldsEnd :
    (let s := { taking with ou := { taking.ou with handoverTimer := some 50 } }
     running s ∧ s.ou.role = .taking ∧ s.ou.handoverTimer = some 50 ∧ s.silence = false ∧ s.ri.clashHold = none
     ∧ ∀ p ∈ s.ou.peers, ¬rivalOwning s p)
    ∧ (let s := withPeers [peer 3 .owner 420] taking
       ∃ p ∈ s.ou.peers, rivalOwning s p)
    ∧ (running serving ∧ serving.services[1]? = some { entry 6 1 .keep .spare with suspension := .suspended 2000 }
      ∧ serving.services[0]? = some (entry 5 1 (.fixed 900) .premium)
      ∧ (entry 5 1 (.fixed 900) .premium).suspension = .active)
    ∧ (let s := { ready with ri := { ready.ri with clashHold := some 2000, busView := .idle, statusSlot := true } }
       running s ∧ s.ri.clashHold = some 2000 ∧ s.loader.state ≠ .configFault ∧ clashCondition s = false
       ∧ s.silence = false ∧ s.ri.busView = .idle ∧ s.ri.tx = .silent ∧ s.ri.yieldSlot = none ∧ s.ri.takeSlot = none
       ∧ s.ri.statusSlot = true) := by
  unfold running rivalOwning; decide

theorem witness_IdleLineAndStartBitBeginFrames :
    (running owner ∧ owner.ri.tx = .silent ∧ owner.silence = false ∧ owner.ri.clashHold = none
      ∧ owner.ri.yieldSlot = none ∧ owner.ri.takeSlot = none ∧ owner.ri.statusSlot = false ∧ owner.ou.role = .owner
      ∧ owner.ri.premium = [] ∧ owner.ri.standard = [] ∧ owner.ri.spare = [])
    ∧ { owner.ri with yieldSlot := some ⟨0, none, .lockLost⟩ }.yieldSlot.isSome = true
    ∧ { owner.ri with takeSlot := some ⟨0, 515, none⟩ }.takeSlot.isSome = true
    ∧ { owner.ri with statusSlot := true }.statusSlot = true
    ∧ { owner.ri with premium := [queued .premium] }.premium ≠ [] ∧ { owner.ri with standard := [queued .standard] }.standard ≠ []
    ∧ { owner.ri with spare := [queued .spare] }.spare ≠ []
    ∧ (let s := { owner with ri := { owner.ri with busView := .idle, premium := [queued .premium] } }
       s.ri.busView = .idle ∧ s.ri.tx = .silent ∧ allowedFrame s = some (.payload .premium))
    ∧ (let s := { ready with ri := { ready.ri with busView := .idle } }
       s.ri.busView = .idle ∧ s.ri.tx = .silent ∧ allowedFrame s = none)
    ∧ (withTx (.arbitrating .status) ready).ri.tx = .arbitrating .status := by
  unfold running; decide

theorem witness_WinningStatusTakesContent :
    let s := withTx (.arbitrating .status) owner
    running s ∧ s.ri.tx = .arbitrating .status ∧ s.ou.role ≠ .yielding ∧ s.ou.role = .owner
      ∧ standby.ou.role ≠ .owner ∧ taking.ou.role = .taking ∧ ready.ou.role = .absent := by
  unfold running; decide

theorem witness_WinningFramesTakeContent :
    (let s := withTx (.arbitrating (.payload .standard)) { owner with ri := { owner.ri with standard := [queued .standard] } }
     running s ∧ s.ri.tx = .arbitrating (.payload .standard)
      ∧ queueOf .standard s.ri = queued .standard :: [] ∧ (queued .standard).outId ≤ 8191
      ∧ (queued .standard).errored = true ∧ { queued .standard with outId := 8191, errored := false }.outId ≤ 8191
      ∧ { queued .standard with errored := false }.errored = false)
    ∧ (let s := withTx (.arbitrating .take) { taking with ri := { taking.ri with takeSlot := some ⟨0, 515, some 7#16⟩ } }
       running s ∧ s.ri.tx = .arbitrating .take ∧ s.ri.takeSlot = some ⟨0, 515, some 7#16⟩)
    ∧ (let s := withTx (.arbitrating .yield)
          { withRole .yielding tracking with ri := { tracking.ri with yieldSlot := some ⟨0, none, .lockLost⟩ } }
       running s ∧ s.ri.tx = .arbitrating .yield ∧ s.ri.yieldSlot = some ⟨0, none, .lockLost⟩) := by
  unfold running
  repeat' apply And.intro
  all_goals first | rfl | decide +kernel

theorem witness_FrameSentReachesItsOwner :
    running (withTx (.transmitting (.status (status 7 .owner 1))) owner)
    ∧ (withTx (.transmitting (.status (status 7 .owner 1))) owner).ri.tx = .transmitting (.status (status 7 .owner 1))
    ∧ (withTx (.transmitting (.take ⟨7, 0, 515, none⟩)) taking).ri.tx = .transmitting (.take ⟨7, 0, 515, none⟩)
    ∧ (let s := withTx (.transmitting (.payload (header 0 5 1#16) (packet 5))) owner
       s.ri.tx = .transmitting (.payload (header 0 5 1#16) (packet 5)) ∧ ¬(s.ou.role = .owner ∧ s.hbu.phase = .drain))
    ∧ (let s := withTx (.transmitting (.yield ⟨7, 0, none, none, .lockLost⟩)) (withRole .yielding holding)
       running s ∧ s.ri.tx = .transmitting (.yield ⟨7, 0, none, none, .lockLost⟩) ∧ s.ou.role = .yielding
       ∧ s.gau.acq = .hold) := by
  unfold running
  repeat' apply And.intro
  all_goals first | rfl | decide +kernel

theorem witness_AddressClashStopsStation :
    (running (withTx (.transmitting (.take ⟨7, 0, 515, none⟩)) taking)
      ∧ (withTx (.transmitting (.take ⟨7, 0, 515, none⟩)) taking).ri.tx = .transmitting (.take ⟨7, 0, 515, none⟩))
    ∧ (running (heard ready) ∧ (heard ready).ri.heardIdle = true
      ∧ checkFrame (frameBytes (.take ⟨7, 0, 515, none⟩)) = some (.take ⟨7, 0, 515, none⟩)
      ∧ frameSender (.take ⟨7, 0, 515, none⟩) = ready.loader.address
      ∧ (status 7 .owner 1000).wf = true ∧ (status 7 .owner 1000).sender = ready.loader.address)
    ∧ taking.gau.acq = .track
    ∧ (running (withRole .yielding confirming) ∧ (withRole .yielding confirming).gau.acq ≠ .track
      ∧ (withRole .yielding confirming).gau.acq ≠ .hold)
    ∧ (running ready ∧ ready.ri.heardIdle = false) := by
  unfold running; decide +kernel

theorem witness_AddressClashStopsStation_payload :
    let s := withTx (.transmitting (.payload (header 0 5 1#16) (packet 5))) owner
    running s ∧ s.ri.tx = .transmitting (.payload (header 0 5 1#16) (packet 5)) ∧ s.ou.role = .owner ∧ s.gau.acq = .track :=
  ⟨⟨rfl, rfl⟩, rfl, rfl, rfl⟩

theorem witness_LampShowsPatternsAndFlash :
    (running taking ∧ taking.loader.state = .complete ∧ taking.ri.clashHold = none
      ∧ (⟨3, 0, none, some 7, .challenged⟩ : YieldFrame).sender ≠ taking.loader.address
      ∧ (⟨3, 0, none, some 7, .challenged⟩ : YieldFrame).group = taking.cfg.group ∧ taking.silence = false
      ∧ taking.ou.role = .taking
      ∧ (⟨3, 0, none, some 7, .challenged⟩ : YieldFrame).successor = some taking.loader.address)
    ∧ (running owner ∧ owner.loader.state = .complete ∧ owner.ri.clashHold = none
      ∧ (⟨3, 0, 1, none⟩ : TakeFrame).wf = true ∧ (⟨3, 0, 1, none⟩ : TakeFrame).sender ≠ owner.loader.address
      ∧ (⟨3, 0, 1, none⟩ : TakeFrame).group = owner.cfg.group ∧ owner.ou.role = .owner
      ∧ owner.pru.smoothed < (⟨3, 0, 1, none⟩ : TakeFrame).merit)
    ∧ (let s := withPeers [peer 3 .owner 420] { taking with ou := { taking.ou with handoverTimer := some 50 } }
       running s ∧ s.loader.state = .complete ∧ s.ri.clashHold = none ∧ s.ou.role = .taking
       ∧ s.ou.handoverTimer = some 50 ∧ ∃ p ∈ s.ou.peers, rivalOwning s p)
    ∧ (let s := { withTx (.transmitting (.take ⟨7, 0, 515, none⟩)) taking with iu := { taking.iu with flash := some 100 } }
       running s ∧ s.ri.tx = .transmitting (.take ⟨7, 0, 515, none⟩) ∧ s.iu.pattern ≠ .doubleFlash)
    ∧ (up.loader.state ≠ .configFault ∧ { up.loader with state := .configFault }.state = .configFault)
    ∧ (owner.hbu.phase = .live ∧ (catching 0).hbu.phase = .catchUp ∧ standby.gau.acq = .track ∧ holding.gau.acq = .hold
      ∧ (withAcq .gain ready).gau.noSignalRestarts = 0 ∧ ready.gau.acq = .idle ∧ ready.ou.role = .absent) := by
  unfold running rivalOwning; decide

theorem witness_UndispatchedFramesOnlyCount :
    running up ∧ up.loader.state ≠ .complete ∧ (3 : Address) ≠ up.loader.address
    ∧ (status 3 .owner 1000).wf = true ∧ (status 3 .owner 1000).sender = 3
    ∧ (⟨3, 0, 1000, none⟩ : TakeFrame).wf = true ∧ (header 0 8191 0).wf = true ∧ (header 0 8191 0).sender = 3
    ∧ frameFails [0x0C#8] ∧ ¬frameFails (frameBytes (.take ⟨3, 0, 1000, none⟩))
    ∧ frameFails (frameBytes (.take ⟨3, 0, 1001, none⟩)) := by
  unfold running frameFails
  refine ⟨?_, ?_, ?_, ?_, ?_, ?_, ?_, ?_, ?_, ?_, ?_⟩ <;> (try dsimp only) <;> decide +kernel

theorem witness_StatusUpdatesPeerView :
    (let s := withPeers [peer 2 .owner 1, peer 3 .standby 2] standby
     running s ∧ s.loader.state = .complete ∧ (status 3 .owner 1000).wf = true
      ∧ (status 3 .owner 1000).sender ≠ s.loader.address
      ∧ (s.ou.peers.Pairwise fun a b => a.address < b.address) ∧ (2 : Address) ≠ (status 3 .owner 1000).sender
      ∧ ¬(s.ou.role = .owner ∨ (s.ou.role = .taking ∧ s.pru.smoothed ≤ (status 3 .owner 1000).merit))
      ∧ peerOf 3 s.ou.peers = some (peer 3 .standby 2) ∧ peerOf 4 s.ou.peers = none)
    ∧ (let s := { taking with pru := { taking.pru with smoothed := 515 } }
       running s ∧ s.loader.state = .complete ∧ s.ou.role = .taking ∧ (status 3 .owner 515).group = s.cfg.group
       ∧ (status 3 .owner 515).role = .owner ∧ s.pru.smoothed ≤ (status 3 .owner 515).merit
       ∧ ¬(s.pru.smoothed ≤ (status 3 .owner 514).merit)) := by
  unfold running; decide

theorem witness_OwnerYieldsToGreaterMerit :
    let s := { owner with pru := { owner.pru with smoothed := 515 } }
    (running s ∧ s.loader.state = .complete ∧ (status 3 .owner 515).wf = true
      ∧ (status 3 .owner 515).sender ≠ s.loader.address ∧ (status 3 .owner 515).group = s.cfg.group
      ∧ (status 3 .owner 515).role = .owner ∧ s.ou.role = .owner
      ∧ (s.pru.smoothed = (status 3 .owner 515).merit ∧ (status 3 .owner 515).sender < s.loader.address)
      ∧ ¬(s.pru.smoothed < (status 9 .owner 515).merit
          ∨ (s.pru.smoothed = (status 9 .owner 515).merit ∧ (status 9 .owner 515).sender < s.loader.address)))
    ∧ ((⟨3, 0, 516, none⟩ : TakeFrame).wf = true ∧ (⟨3, 0, 516, none⟩ : TakeFrame).sender ≠ s.loader.address
      ∧ (⟨3, 0, 516, none⟩ : TakeFrame).group = s.cfg.group
      ∧ s.pru.smoothed < (⟨3, 0, 516, none⟩ : TakeFrame).merit ∧ (⟨3, 0, 515, none⟩ : TakeFrame).merit ≤ s.pru.smoothed
      ∧ (⟨3, 1, 516, none⟩ : TakeFrame).group ≠ s.cfg.group) := by
  unfold running; decide

theorem witness_YieldPassesOwnership :
    let f : YieldFrame := ⟨3, 0, none, some 7, .challenged⟩
    running taking ∧ taking.loader.state = .complete ∧ f.sender ≠ taking.loader.address
      ∧ f.group = taking.cfg.group ∧ taking.silence = false ∧ taking.ri.clashHold = none
      ∧ f.successor = some taking.loader.address ∧ taking.ou.role = .taking ∧ f.lastSignature = none
      ∧ { f with successor := none }.successor = none ∧ { f with group := 1 }.group ≠ taking.cfg.group
      ∧ standby.ou.role = .standby ∧ standby.gau.acq = .track ∧ (8 : Address) ≠ taking.loader.address
      ∧ ¬({ standby with silence := true }.silence = false)
      ∧ ¬({ standby with ri := { standby.ri with clashHold := some 2000 } }.ri.clashHold = none)
      ∧ (let s := { taking with hbu := { taking.hbu with lead := [6#16, 7#16] } }
         s.hbu.ring = [] ∧ s.hbu.lastReleased ≠ some 6#16 ∧ 6#16 ∈ s.hbu.lead ∧ 8#16 ∉ s.hbu.lead) := by
  unfold running; decide

theorem witness_AnchorResolvesByStores :
    (let h := { HoldBack.reset with ring := [stored 6#16, stored 7#16], lastReleased := some 5#16 }
     storesSound h ∧ h.lastReleased = some 5#16 ∧ h.lastReleased ≠ some 6#16
     ∧ h.ring = [] ++ stored 6#16 :: [stored 7#16] ∧ (stored 6#16).signature = 6#16 ∧ (stored 6#16).errored = false
     ∧ h.ring = [stored 6#16] ++ stored 7#16 :: [] ∧ (∀ x ∈ [stored 6#16], x.signature ≠ 7#16 ∨ x.errored = true)
     ∧ (∀ e ∈ h.ring, e.signature ≠ 9#16 ∨ e.errored = true) ∧ 9#16 ∉ h.lead)
    ∧ (let h := { HoldBack.reset with lead := [6#16, 7#16, 6#16, 8#16] }
       storesSound h ∧ h.ring = [] ∧ h.lead = [6#16, 7#16] ++ 6#16 :: [8#16] ∧ (6#16 : Signature) ∉ [8#16]) := by
  unfold storesSound
  repeat' apply And.intro
  all_goals first | rfl | decide +kernel

theorem witness_PayloadHeardByGroup :
    (running standby ∧ standby.loader.state = .complete ∧ (header 0 5 7#16).wf = true
      ∧ (header 0 5 7#16).sender ≠ standby.loader.address ∧ (header 0 5 7#16).group = standby.cfg.group
      ∧ standby.ou.role = .standby ∧ (header 0 5 7#16).errored = false ∧ standby.hbu.ring = []
      ∧ standby.hbu.lead.length < 32)
    ∧ (let s := { standby with hbu := { standby.hbu with ring := [stored 6#16, stored 7#16] } }
       s.hbu.ring = [stored 6#16] ++ stored 7#16 :: [] ∧ (stored 7#16).signature = (header 0 5 7#16).signature
       ∧ (∀ x ∈ [stored 6#16], x.signature ≠ (header 0 5 7#16).signature ∨ x.errored = true)
       ∧ s.hbu.ring ≠ [] ∧ (∀ e ∈ s.hbu.ring, e.signature ≠ (header 0 5 9#16).signature ∨ e.errored = true))
    ∧ (let s := { standby with hbu := { standby.hbu with lead := List.replicate 32 1#16 } }
       running s ∧ s.ou.role = .standby ∧ s.hbu.ring = [] ∧ s.hbu.lead = 1#16 :: List.replicate 31 1#16
       ∧ (List.replicate 31 (1#16 : Signature)).length = 31)
    ∧ (running owner ∧ owner.loader.state = .complete ∧ (header 0 5 7#16).sender ≠ owner.loader.address
      ∧ (header 0 5 7#16).group = owner.cfg.group ∧ ¬(owner.ou.role = .standby ∨ owner.ou.role = .taking))
    ∧ ({ header 0 5 7#16 with errored := true }.wf = true ∧ ¬({ header 0 5 7#16 with errored := true }.errored = false))
    ∧ (let s := { serving with cfg := { serving.cfg with group := 2 } }
       running s ∧ s.loader.state = .complete ∧ (header 1 6 0#16).wf = true
       ∧ (header 1 6 0#16).sender ≠ s.loader.address ∧ (header 1 6 0#16).group < s.cfg.group
       ∧ s.cfg.group < (header 3 6 0#16).group ∧ s.services[1]? = some { entry 6 1 .keep .spare with suspension := .suspended 2000 }
       ∧ outputIdentifier (entry 6 1 .keep .spare) ((entry 6 1 .keep .spare).first + 0) = (header 1 6 0#16).outId) := by
  unfold running
  repeat' apply And.intro
  all_goals first | rfl | decide +kernel

theorem witness_SilencePinCutsAndResumes :
    (running owner ∧ owner.silence = false ∧ owner.ou.role = .owner ∧ owner.gau.acq = .track
      ∧ standby.ou.role = .standby ∧ (withRole .yielding confirming).gau.acq ≠ .track
      ∧ (withTx (.transmitting (.status (status 7 .owner 1))) owner).ri.tx = .transmitting (.status (status 7 .owner 1)))
    ∧ (let s := { ready with silence := true, ri := { ready.ri with busView := .idle, statusSlot := true } }
       running s ∧ s.silence = true ∧ s.ri.tx = .silent ∧ s.ri.busView = .idle ∧ s.ri.clashHold = none
       ∧ selectFrame s = some .status)
    ∧ (let s := { ready with silence := true }
       running s ∧ s.silence = true ∧ s.ri.tx = .silent ∧ s.ri.busView = .busy) := by
  unfold running; decide

theorem witness_FrameBytesLaidOutAndReadBack :
    (status 7 .owner 1000).wf = true ∧ (⟨7, 0, 1000, some 7#16⟩ : TakeFrame).wf = true
    ∧ (⟨7, 0, none, some 7, .lockLost⟩ : YieldFrame).successor = some 7 ∧ (header 0 8191 1#16).wf = true
    ∧ frameSound (.status (status 7 .owner 1000)) ∧ frameSound (.take ⟨7, 0, 1000, none⟩)
    ∧ frameSound (.yield ⟨7, 0, none, none, .lockLost⟩) ∧ frameSound (.payload (header 0 8191 1#16) (packet 5)) := by
  unfold frameSound; decide

theorem witness_step_statements :
    let s := { ready with pending := [.admissionTick] }
    queuesSound s ∧ storesSound s.hbu ∧ startupSound s ∧ creditSound s ∧ meritSound s ∧ pathsSound s.wu.paths ∧ peersSound s
      ∧ lineSound s ∧ windowSound s ∧ step s = .next { s with pending := [] } := by
  unfold queuesSound storesSound startupSound creditSound meritSound pathsSound peersSound lineSound windowSound spaced
    pathInRange
  refine ⟨by decide, by decide, by decide, by decide, by decide, by decide, by decide, by decide, by decide, rfl⟩

theorem witness_StepKeepsPathListSpaced :
    pathsSound placing.wu.paths ∧ step { placing with pending := [.profileUpdate steady] } = .next
      { run (.profileUpdate steady) { placing with pending := [] } with pending := [] } := by
  refine ⟨?_, rfl⟩
  unfold pathsSound spaced pathInRange; decide

theorem witness_StepKeepsPeerViewOrdered :
    let s := withPeers [peer 2 .owner 1, peer 3 .standby 2] { standby with pending := [.statusReceived (status 4 .owner 5)] }
    peersSound s ∧ step s = .next (run (.statusReceived (status 4 .owner 5)) { s with pending := [] }) := by
  refine ⟨?_, rfl⟩
  unfold peersSound; decide

theorem witness_StepKeepsLineDiscipline :
    let s := { ready with pending := [.busIdle], ri := { ready.ri with statusSlot := true } }
    lineSound s ∧ step s = .next (run .busIdle { s with pending := [] }) := by
  refine ⟨?_, rfl⟩
  unfold lineSound; decide

theorem witness_AppliedPositionMovesBySlewOrJump :
    let s := atBoundary { tracking with wu := { tracking.wu with mark := .step, pendingPos := 8 } }
    startupSound s ∧ windowSound s ∧ exec (.symbolBoundary true) s = .next (run (.symbolBoundary true) s)
      ∧ (run (.symbolBoundary true) s).wu.applied = 8 := by
  refine ⟨?_, ?_, rfl, by decide⟩
  · unfold startupSound; decide
  · unfold windowSound; decide

theorem witness_CausesLeaveOnlyWhenReported :
    let s := withTx (.transmitting (.status (status 7 .owner 1)))
      { owner with gau := { owner.gau with
          causes := { noCauses with windowJump := true }, carried := { noCauses with windowJump := true } } }
    exec .frameSent s = .next (run .frameSent s) ∧ causePresent .windowJump s.gau.causes = true
      ∧ causePresent .windowJump (run .frameSent s).gau.causes = false := by
  refine ⟨rfl, by decide, by decide⟩

theorem witness_StepKeepsLampPattern :
    let s := { State.reset with pending := [.resetEnd 5#4] }
    s.iu.pattern = basePattern s ∧ step s = .next (run (.resetEnd 5#4) { s with pending := [] })
      ∧ Instr.silenceAssert ≠ .reset ∧ exec .silenceAssert owner = .next (run .silenceAssert owner) := by
  refine ⟨by decide, rfl, by decide, rfl⟩

theorem witness_CommandsLeaveOtherBlocks :
    startupSound owner ∧ owner.waiting = nothingWaits ∧ Instr.outputPeriodEnd ≠ .reset
      ∧ exec .outputPeriodEnd owner = .next (run .outputPeriodEnd owner)
      ∧ Block.ri ∉ blocksOf .outputPeriodEnd ∧ Instr.outputPeriodEnd ≠ .silenceAssert := by
  refine ⟨?_, by decide, by decide, rfl, by decide, by decide⟩
  unfold startupSound; decide

end Sys2Proof.Tests
end

/-! # Proofs: what the operations of a running station are made of

Every operation that a command of a running station can bring about, but for a configuration fetch and a completed STATUS, is
a run of a few elementary moves (`Move`). Each operation's run is given once; what a step keeps is then shown for the moves
alone. -/

namespace Sys2Proof.Machine

/-! ## Blocks that differ -/

/-- Between two states only the blocks `bs` differ; the queue and the levels of the two pins are the same. -/
def changesOnly (bs : List Block) (s t : State) : Prop :=
  t.pending = s.pending ∧ t.silence = s.silence ∧ t.resetLow = s.resetLow ∧ ∀ b, b ∉ bs → sameBlock s t b

theorem forall_block {p : Block → Prop} : (∀ b, p b) ↔ p .loader ∧ p .cfg ∧ p .gau ∧ p .ib ∧ p .wu ∧ p .pru ∧ p .services
    ∧ p .waiting ∧ p .ri ∧ p .ou ∧ p .hbu ∧ p .sau ∧ p .iu := by
  constructor
  · intro h; exact ⟨h _, h _, h _, h _, h _, h _, h _, h _, h _, h _, h _, h _, h _⟩
  · rintro ⟨h1, h2, h3, h4, h5, h6, h7, h8, h9, h10, h11, h12, h13⟩ (_ | _)
    all_goals assumption

theorem sameBlock_trans {s t u : State} {b : Block} (h : sameBlock s t b) (h' : sameBlock t u b) : sameBlock s u b := by
  cases b <;> exact Eq.trans h' h

theorem changesOnly_refl (bs : List Block) (s : State) : changesOnly bs s s :=
  ⟨rfl, rfl, rfl, fun b _ => by cases b <;> rfl⟩

theorem changesOnly_trans {bs : List Block} {s t u : State} (h : changesOnly bs s t) (h' : changesOnly bs t u) :
    changesOnly bs s u := by
  obtain ⟨hp, hs, hr, hb⟩ := h
  obtain ⟨hp', hs', hr', hb'⟩ := h'
  exact ⟨hp'.trans hp, hs'.trans hs, hr'.trans hr, fun b h => sameBlock_trans (hb b h) (hb' b h)⟩

theorem changesOnly.same {bs : List Block} {s t : State} {b : Block} (h : changesOnly bs s t) (hb : b ∉ bs) :
    sameBlock s t b := by
  obtain ⟨-, -, -, h⟩ := h
  exact h b hb

theorem changesOnly_mono {bs bs' : List Block} {s t : State} (hbs : bs ⊆ bs') (h : changesOnly bs s t) :
    changesOnly bs' s t := by
  obtain ⟨hpending, hsilence, hreset, hblocks⟩ := h
  exact ⟨hpending, hsilence, hreset, fun b hb => hblocks b fun hc => hb (hbs hc)⟩

theorem changesOnly_roleBlocks {s t : State} (h : t.pending = s.pending ∧ t.silence = s.silence ∧ t.resetLow = s.resetLow
    ∧ t.loader = s.loader ∧ t.cfg = s.cfg ∧ t.gau = s.gau ∧ t.ib = s.ib ∧ t.wu = s.wu ∧ t.pru = s.pru
    ∧ t.services = s.services ∧ t.waiting = s.waiting) : changesOnly roleBlocks s t := by
  obtain ⟨hp, hs, hr, h1, h2, h3, h4, h5, h6, h7, h8⟩ := h
  refine ⟨hp, hs, hr, fun b hb => ?_⟩
  cases b
  case ri | ou | hbu | sau | iu => exact absurd (by decide) hb
  all_goals assumption

/-! ## The elementary moves -/

/-- Configuration has not begun to move the station: the GAU is in IDLE and the role is ABSENT (R6, R120). -/
def atRest (s : State) : Prop := s.gau.acq = .idle ∧ s.ou.role = .absent

/-- Only the blocks `bs` differ, and none of the figures the rules over every step watch: the loader and the configuration, the
acquisition state, the recovery causes, the merit and the role. -/
def calm (bs : List Block) (s t : State) : Prop :=
  changesOnly bs s t ∧ t.loader = s.loader ∧ t.cfg = s.cfg ∧ t.gau.acq = s.gau.acq ∧ t.gau.causes = s.gau.causes
    ∧ t.pru.smoothed = s.pru.smoothed ∧ t.ou.role = s.ou.role

/-- The credit lies in its range (R167). -/
def creditInRange (s : State) : Prop := -creditTop s ≤ s.sau.credit ∧ s.sau.credit ≤ creditTop s

/-- The elementary moves of a running station within the blocks `bs`. -/
inductive Move (bs : List Block) (s : State) : State → Prop
  /-- None of the watched figures changes, nor the credit. -/
  | quiet {t : State} (h : calm bs s t) (hc : t.sau.credit = s.sau.credit) : Move bs s t
  /-- An owner's credit moves within its range (R168, R171, R172). -/
  | credit {t : State} (h : calm bs s t) (hr : s.ou.role = .owner) (hc : creditInRange s → creditInRange t) : Move bs s t
  /-- A cause is recorded (R17). -/
  | record (c : Cause) (hb : .gau ∈ bs) : Move bs s (recordCause c s)
  /-- The acquisition state changes, and a departure from TRACK takes the merit with it (R1, R73). -/
  | acq (new : AcqState) (hs : ¬atRest s) (hb : .gau ∈ bs) (hp : s.gau.acq = .track → .pru ∈ bs) :
      Move bs s { s with
        gau := { s.gau with acq := new }, pru := if s.gau.acq = .track then leaveTrack s.pru else s.pru }
  /-- The packet recovery unit grades a period (R67, R72, R73). -/
  | grade (hb : .pru ∈ bs) : Move bs s { s with pru := closePeriod s.gau.acq s.pru }
  /-- The role changes into one other than OWNER (R120). -/
  | role (r : Role) (hs : ¬atRest s) (hb : roleBlocks ⊆ bs) : Move bs s (changeRole r s)
  /-- The station becomes OWNER (R122). -/
  | own (a : Option Signature) (hs : ¬atRest s) (hb : roleBlocks ⊆ bs) : Move bs s (enterOwner a s)

/-- A run of elementary moves within the blocks `bs`. -/
def Moves (bs : List Block) : State → State → Prop := Relation.ReflTransGen (Move bs)

theorem calm_iff {bs : List Block} {s t : State} : calm bs s t ↔
    t.pending = s.pending ∧ t.silence = s.silence ∧ t.resetLow = s.resetLow ∧ t.loader = s.loader ∧ t.cfg = s.cfg
      ∧ t.gau.acq = s.gau.acq ∧ t.gau.causes = s.gau.causes ∧ t.pru.smoothed = s.pru.smoothed ∧ t.ou.role = s.ou.role
      ∧ (.gau ∉ bs → t.gau = s.gau) ∧ (.ib ∉ bs → t.ib = s.ib) ∧ (.wu ∉ bs → t.wu = s.wu) ∧ (.pru ∉ bs → t.pru = s.pru)
      ∧ (.services ∉ bs → t.services = s.services) ∧ (.waiting ∉ bs → t.waiting = s.waiting) ∧ (.ri ∉ bs → t.ri = s.ri)
      ∧ (.ou ∉ bs → t.ou = s.ou) ∧ (.hbu ∉ bs → t.hbu = s.hbu) ∧ (.sau ∉ bs → t.sau = s.sau)
      ∧ (.iu ∉ bs → t.iu = s.iu) := by
  simp only [calm, changesOnly, forall_block, sameBlock]
  constructor
  · rintro ⟨⟨hp, hs, hr, -, -, hb⟩, hl, hc, hf⟩
    obtain ⟨h1, h2, h3, h4⟩ := hf
    obtain ⟨b1, b2, b3, b4, b5, b6, b7, b8, b9, b10, b11⟩ := hb
    exact ⟨hp, hs, hr, hl, hc, h1, h2, h3, h4, b1, b2, b3, b4, b5, b6, b7, b8, b9, b10, b11⟩
  · rintro ⟨hp, hs, hr, hl, hc, h1, h2, h3, h4, hb⟩
    exact ⟨⟨hp, hs, hr, fun _ => hl, fun _ => hc, hb⟩, hl, hc, h1, h2, h3, h4⟩

theorem calm_mono {bs bs' : List Block} {s t : State} (hbs : bs ⊆ bs') (h : calm bs s t) : calm bs' s t :=
  ⟨changesOnly_mono hbs h.1, h.2⟩

theorem Move.mono {bs bs' : List Block} {s t : State} (hbs : bs ⊆ bs') (h : Move bs s t) : Move bs' s t := by
  cases h with
  | quiet h hc => exact .quiet (calm_mono hbs h) hc
  | credit h hr hc => exact .credit (calm_mono hbs h) hr hc
  | record c hb => exact .record c (hbs hb)
  | acq new hs hb hp => exact .acq new hs (hbs hb) fun h => hbs (hp h)
  | grade hb => exact .grade (hbs hb)
  | role r hs hb => exact .role r hs fun _ h => hbs (hb h)
  | own a hs hb => exact .own a hs fun _ h => hbs (hb h)

theorem Moves.mono {bs bs' : List Block} {s t : State} (h : Moves bs s t) (hbs : bs ⊆ bs') : Moves bs' s t :=
  Relation.ReflTransGen.mono (fun _ _ h => Move.mono hbs h) _ _ h

theorem Moves.refl {bs : List Block} {s : State} : Moves bs s s := Relation.ReflTransGen.refl

theorem Moves.trans {bs : List Block} {s t u : State} (h : Moves bs s t) (h' : Moves bs t u) : Moves bs s u :=
  Relation.ReflTransGen.trans h h'

theorem Move.moves {bs : List Block} {s t : State} (h : Move bs s t) : Moves bs s t := Relation.ReflTransGen.single h

theorem Moves.quiet {bs : List Block} {s t : State} (h : calm bs s t ∧ t.sau.credit = s.sau.credit) : Moves bs s t :=
  (Move.quiet h.1 h.2).moves

/-! ## What the moves keep -/

theorem Move.changesOnly {bs : List Block} {s t : State} (h : Move bs s t) : changesOnly bs s t := by
  cases h with
  | quiet h _ => exact h.1
  | credit h _ _ => exact h.1
  | record c hb => simp [Machine.changesOnly, forall_block, sameBlock, hb]
  | acq new hs hb hp => by_cases h : s.gau.acq = .track <;> simp_all [Machine.changesOnly, forall_block, sameBlock]
  | grade hb => simp [Machine.changesOnly, forall_block, sameBlock, hb]
  | role r hs hb => exact changesOnly_mono hb (changesOnly_roleBlocks (by simp))
  | own a hs hb => exact changesOnly_mono hb (changesOnly_roleBlocks (by simp))

theorem Moves.changesOnly {bs : List Block} {s t : State} (h : Moves bs s t) : changesOnly bs s t := by
  induction h with
  | refl => exact changesOnly_refl bs s
  | tail _ h ih => exact changesOnly_trans ih (Move.changesOnly h)

/-- A predicate that every elementary move keeps is kept by a run of them. -/
theorem Moves.keeps {bs : List Block} {p : State → Prop} (hp : ∀ s t, Move bs s t → p s → p t) {s t : State}
    (h : Moves bs s t) (hs : p s) : p t := by
  induction h with
  | refl => exact hs
  | tail _ h ih => exact hp _ _ h ih

theorem Move.loader {bs : List Block} {s t : State} (h : Move bs s t) : t.loader = s.loader := by
  cases h with
  | quiet h _ => exact h.2.1
  | credit h _ _ => exact h.2.1
  | record | acq | grade => rfl
  | role | own => simp

/-- No move brings a station at rest into motion. -/
theorem Move.atRest {bs : List Block} {s t : State} (h : Move bs s t) (hs : atRest s) : atRest t := by
  have ofCalm (h : calm bs s t) : Machine.atRest t := by
    obtain ⟨-, -, -, hacq, -, -, hrole⟩ := h
    exact ⟨hacq.trans hs.1, hrole.trans hs.2⟩
  cases h with
  | quiet h _ => exact ofCalm h
  | credit h _ _ => exact ofCalm h
  | record | grade => exact hs
  | acq _ h | role _ h | own _ h => exact absurd hs h

theorem Move.startupSound {bs : List Block} {s t : State} (h : Move bs s t) (hs : startupSound s) : startupSound t :=
  fun hc => h.atRest (hs (h.loader ▸ hc))

theorem causePresent_setCause (c k : Cause) (a : CauseSet) :
    causePresent k (setCause c true a) = (decide (k = c) || causePresent k a) := by
  cases c <;> cases k <;> rfl

/-- A cause stays in the set over every move. -/
theorem Move.causes {bs : List Block} {s t : State} (h : Move bs s t) {k : Cause}
    (hk : causePresent k s.gau.causes = true) : causePresent k t.gau.causes = true := by
  cases h with
  | quiet h _ => obtain ⟨-, -, -, -, hc, -⟩ := h; rwa [hc]
  | credit h _ _ => obtain ⟨-, -, -, -, hc, -⟩ := h; rwa [hc]
  | record c => rw [recordCause, causePresent_setCause, hk, Bool.or_true]
  | acq | grade => exact hk
  | role | own => simpa using hk

theorem rawMerit_le (t : Tallies) (r : Nat) : rawMerit t r ≤ 1000 := Nat.min_le_left ..

/-- Grading a period leaves the merit in its range, and at 0 outside TRACK (R71, R72, R73). -/
theorem closePeriod_merit (acq : AcqState) {p : Pru} (h : p.smoothed ≤ 1000) :
    (closePeriod acq p).smoothed ≤ 1000 ∧ (acq ≠ .track → (closePeriod acq p).smoothed = 0) := by
  by_cases ha : acq = .track
  · have raw : ∀ r, r ≤ 1000 → (if p.fresh then r else (3 * p.smoothed + r) / 4) ≤ 1000 := by
      intro r hr; split <;> omega
    refine ⟨?_, fun hn => absurd ha hn⟩
    simp only [closePeriod, ha, if_true]
    apply raw
    split
    · omega
    · exact rawMerit_le _ _
  · simp [closePeriod, ha]

theorem Move.meritSound {bs : List Block} {s t : State} (h : Move bs s t) (hs : meritSound s) : meritSound t := by
  have ofCalm (h : calm bs s t) : Machine.meritSound t := by
    obtain ⟨-, -, -, hacq, -, hm, -⟩ := h
    simpa [Machine.meritSound, hacq, hm] using hs
  cases h with
  | quiet h _ => exact ofCalm h
  | credit h _ _ => exact ofCalm h
  | record => exact hs
  | acq new _ _ _ =>
    by_cases ha : s.gau.acq = .track
    · simp [Machine.meritSound, ha, leaveTrack]
    · simp [Machine.meritSound, ha, hs.2 ha]
  | grade => exact closePeriod_merit _ hs.1
  | role | own => simpa [Machine.meritSound] using hs

/-! ## Credit (R167) -/

theorem creditSound_iff {s : State} : creditSound s ↔ creditInRange s ∧ (s.ou.role ≠ .owner → s.sau.credit = 0) :=
  ⟨fun ⟨hl, hu, h0⟩ => ⟨⟨hl, hu⟩, h0⟩, fun ⟨⟨hl, hu⟩, h0⟩ => ⟨hl, hu, h0⟩⟩

theorem creditInRange_congr {s t : State} (hcfg : t.cfg = s.cfg) (hc : t.sau.credit = s.sau.credit) :
    creditInRange t ↔ creditInRange s := by
  simp [creditInRange, creditTop, hcfg, hc]

@[simp] theorem admitEntry_credit (e : QueueEntry) (s : State) : (admitEntry e s).sau.credit = chargedCredit s := rfl

theorem admitEntry_inRange (e : QueueEntry) {s : State} (h : creditInRange s) : creditInRange (admitEntry e s) := by
  simp only [creditInRange, creditTop, chargedCredit, admitEntry_credit, admit_frame] at h ⊢
  omega

@[simp] theorem countDrop_sau (c : ServiceClass) (s : State) : (countDrop c s).sau = s.sau := by simp

theorem creditTick_inRange {s : State} (h : creditInRange s) : creditInRange (creditTick s) := by
  have hc : (creditTick s).sau.credit = min (creditTop s) (s.sau.credit + s.sau.share) := rfl
  simp only [creditInRange, creditTop, creditTick_frame, hc] at h ⊢
  omega

theorem offerEntries_inRange (n : Nat) {s : State} (h : creditInRange s) : creditInRange (offerEntries n s) := by
  induction n generalizing s with
  | zero => exact h
  | succ n ih =>
    unfold offerEntries
    split
    · exact h
    · split
      · exact ih (admitEntry_inRange _ h)
      · exact ih (by simpa [creditInRange, creditTop] using h)
      · exact h

theorem drainOffer_inRange {s : State} (h : creditInRange s) : creditInRange (drainOffer s) := by
  unfold drainOffer
  dsimp only
  split
  · exact (creditInRange_congr (by simp) (by simp)).mpr (offerEntries_inRange 2 h)
  · exact offerEntries_inRange 2 h

/-- An owner begins with one tick of credit from 0, the anchor resolved, and a drain offer where that gives DRAIN (R122, R155,
R169). -/
theorem enterOwner_eq (a : Option Signature) (s : State) : ∃ u v : State,
    v = { creditTick { u with sau := { u.sau with credit := 0 } } with hbu := resolveAnchor a u.hbu }
      ∧ enterOwner a s
        = startFlash (refreshLamp (requestStatus (if v.hbu.phase = .drain then drainOffer v else v))) :=
  ⟨_, _, rfl, rfl⟩

theorem enterOwner_inRange (a : Option Signature) (s : State) : creditInRange (enterOwner a s) := by
  obtain ⟨u, v, hv, he⟩ := enterOwner_eq a s
  have first : creditInRange (creditTick { u with sau := { u.sau with credit := 0 } }) :=
    creditTick_inRange (by simp [creditInRange, creditTop])
  have resolved : creditInRange v := by rw [hv]; exact first
  have offered : creditInRange (if v.hbu.phase = .drain then drainOffer v else v) := by
    split
    · exact drainOffer_inRange resolved
    · exact resolved
  rw [he]
  exact (creditInRange_congr (by simp) (by simp)).mpr offered

/-- Outside OWNER a credit of 0 is sound. -/
theorem creditSound_of_zero {s : State} (h : s.sau.credit = 0) : creditSound s := by
  simp [creditSound, h]

theorem Move.creditSound {bs : List Block} {s t : State} (h : Move bs s t) (hs : creditSound s) : creditSound t := by
  rw [creditSound_iff] at hs ⊢
  obtain ⟨hrange, hzero⟩ := hs
  cases h with
  | quiet h hc =>
    obtain ⟨-, -, hcfg, -, -, -, hrole⟩ := h
    exact ⟨(creditInRange_congr hcfg hc).mpr hrange, by simpa [hrole, hc] using hzero⟩
  | credit h hr hc =>
    obtain ⟨-, -, -, -, -, -, hrole⟩ := h
    exact ⟨hc hrange, fun hn => absurd (hrole.trans hr) hn⟩
  | record | acq | grade => exact ⟨hrange, hzero⟩
  | role r _ _ =>
    obtain ⟨-, hsau, -, -⟩ := changeRole_spec r s
    exact creditSound_iff.mp (creditSound_of_zero (by simp [hsau]))
  | own a _ _ =>
    obtain ⟨hou, -⟩ := enterOwner_spec a s
    exact ⟨enterOwner_inRange a s, fun hn => absurd (by simp [hou]) hn⟩

/-! ## Moves of the role (chapters 6 to 9) -/

theorem not_atRest_of_role {s : State} {r : Role} (h : s.ou.role = r) (hr : r ≠ .absent) : ¬atRest s :=
  fun ⟨_, ha⟩ => hr (h.symm.trans ha)

theorem not_atRest_of_acq {s : State} {a : AcqState} (h : s.gau.acq = a) (ha : a ≠ .idle) : ¬atRest s :=
  fun ⟨hi, _⟩ => ha (h.symm.trans hi)

theorem moves_changeRole (r : Role) {s : State} (h : ¬atRest s) : Moves roleBlocks s (changeRole r s) :=
  (Move.role r h (List.Subset.refl _)).moves

theorem moves_enterOwner (a : Option Signature) {s : State} (h : ¬atRest s) : Moves roleBlocks s (enterOwner a s) :=
  (Move.own a h (List.Subset.refl _)).moves

theorem moves_yieldWith (a : Option Address) (r : YieldReason) {s : State} (h : ¬atRest s) :
    Moves roleBlocks s (yieldWith a r s) :=
  (Moves.quiet (by simp [calm_iff, roleBlocks])).trans (moves_changeRole .yielding (s := requestYield a r s) h)

theorem moves_endYield (s : State) : Moves roleBlocks s (endYield s) := by
  unfold endYield
  split
  · rename_i h; exact moves_changeRole _ (not_atRest_of_role h (by decide))
  · exact .refl

theorem moves_clearChallenge (s : State) : Moves roleBlocks s (clearChallenge s) :=
  .quiet (by simp [calm_iff, roleBlocks])

theorem moves_stopHandover (s : State) : Moves roleBlocks s (stopHandover s) := .quiet (by simp [calm_iff, roleBlocks])

theorem moves_startHandover (s : State) : Moves roleBlocks s (startHandover s) := .quiet (by simp [calm_iff, roleBlocks])

theorem moves_requestStatus (s : State) : Moves roleBlocks s (requestStatus s) := .quiet (by simp [calm_iff, roleBlocks])

theorem moves_fallRole (s : State) : Moves roleBlocks s (fallRole s) := by
  have fall {r : Role} (hr : s.ou.role = r) (hn : r ≠ .absent) :
      Moves roleBlocks s (changeRole (restingRole s) (stopHandover s)) :=
    (moves_stopHandover s).trans (moves_changeRole _ (not_atRest_of_role (s := stopHandover s) hr hn))
  unfold fallRole
  split
  case h_1 | h_2 | h_3 => exact fall ‹_› (by decide)
  case h_4 | h_5 => exact moves_clearChallenge s

theorem moves_giveUpTake (r : Role) {s : State} (h : ¬atRest s) : Moves roleBlocks s (giveUpTake r s) :=
  (Moves.quiet (t := stopHandover (withdrawTake s)) (by simp [calm_iff, roleBlocks])).trans (moves_changeRole r h)

/-- The acquisition state has just become `new`, which is not IDLE. -/
theorem moves_roleAtAcqChange (new : AcqState) {s : State} (h : ¬atRest s) :
    Moves roleBlocks s (roleAtAcqChange new s) := by
  unfold roleAtAcqChange
  split
  · split
    · exact moves_changeRole _ h
    · exact .refl
  · split
    · exact moves_changeRole _ h
    · exact .refl
  · split
    · exact .refl
    · exact moves_giveUpTake _ h
  · split
    · exact moves_yieldWith _ _ h
    · split
      · split
        · exact .refl
        · exact moves_yieldWith _ _ h
      · exact .refl
  · exact .refl

theorem moves_endTransmission (s : State) : Moves (.gau :: roleBlocks) s (endTransmission s) := by
  unfold endTransmission
  split <;> exact .quiet (by simp [calm_iff, roleBlocks])

theorem gau_roleBlocks : roleBlocks ⊆ .gau :: roleBlocks := List.subset_cons_self _ _

theorem moves_addressClash (s : State) : Moves (.gau :: roleBlocks) s (addressClash s) :=
  (moves_endTransmission s).trans <|
    (Moves.quiet (by simp [calm_iff, roleBlocks])).trans ((moves_fallRole _).mono gau_roleBlocks)

theorem moves_silenceStation (s : State) : Moves (.gau :: roleBlocks) s (silenceStation s) :=
  (moves_endTransmission s).trans <|
    (Moves.quiet (by simp [calm_iff, roleBlocks])).trans ((moves_fallRole _).mono gau_roleBlocks)

theorem moves_attempt (s : State) : Moves [.ri] s (attempt s) := .quiet (by simp [calm_iff])

theorem ri_roleBlocks : [.ri] ⊆ roleBlocks := by decide

/-! ### Decisions at a report expiry (R115, R123 to R125) -/

theorem moves_challenge {s : State} (h : ¬atRest s) : Moves roleBlocks s (challenge s) :=
  (Moves.quiet (by simp [calm_iff, roleBlocks])).trans <|
    (moves_changeRole .taking (s := requestTake s.pru.smoothed (leadAnchor s.hbu) s) h).trans
      (moves_startHandover (changeRole .taking (requestTake s.pru.smoothed (leadAnchor s.hbu) s)))

theorem moves_challengeTest {s : State} (h : ¬atRest s) : Moves roleBlocks s (challengeTest s) := by
  unfold challengeTest
  split
  · split
    · exact moves_clearChallenge s
    · split
      · split
        · exact moves_challenge h
        · exact .quiet (by simp [calm_iff, roleBlocks])
      · exact moves_clearChallenge s
  · exact moves_clearChallenge s

theorem moves_standbyDecision {s : State} (h : ¬atRest s) : Moves roleBlocks s (standbyDecision s) := by
  unfold standbyDecision
  split
  · exact moves_enterOwner _ h
  · exact moves_challengeTest h

theorem moves_ownerDecision {s : State} (h : ¬atRest s) : Moves roleBlocks s (ownerDecision s) := by
  unfold ownerDecision
  split
  · split
    · exact .refl
    · exact moves_yieldWith _ _ h
  · exact .refl

theorem moves_periodicDecision (s : State) : Moves roleBlocks s (periodicDecision s) := by
  unfold periodicDecision
  split
  case h_1 h => exact moves_standbyDecision (not_atRest_of_role h (by decide))
  case h_2 h => exact moves_ownerDecision (not_atRest_of_role h (by decide))
  all_goals exact .refl

theorem moves_ownershipExpiry (s : State) : Moves roleBlocks s (ownershipExpiry s) :=
  ((Moves.quiet (t := recordMark (ageView s)) (by simp [calm_iff, roleBlocks])).trans (moves_periodicDecision _)).trans
    (moves_requestStatus _)

theorem moves_shareExpiry (s : State) : Moves roleBlocks s (shareExpiry s) :=
  .quiet (by simp [shareExpiry, calm_iff, roleBlocks])

theorem moves_takeExpiry (b : Bool) (s : State) : Moves ([.pru, .services] ++ roleBlocks) s (takeExpiry b s) := by
  have close : Moves ([.pru, .services] ++ roleBlocks) s (closePeriods s) :=
    (Move.grade (by decide)).moves.trans (.quiet (by simp [closePeriods, calm_iff]))
  have sub : roleBlocks ⊆ [.pru, .services] ++ roleBlocks := List.subset_append_right _ _
  unfold takeExpiry
  dsimp only
  split
  · exact close.trans (((moves_shareExpiry _).trans (moves_ownershipExpiry _)).mono sub)
  · exact close.trans (((moves_ownershipExpiry _).trans (moves_shareExpiry _)).mono sub)

theorem moves_handoverDecision (s : State) : Moves roleBlocks s (handoverDecision s) := by
  unfold handoverDecision
  split
  · rename_i h
    have hs := not_atRest_of_role h (by decide)
    split
    · exact moves_giveUpTake _ hs
    · split
      · exact moves_enterOwner _ hs
      · exact .refl
  · exact .refl

/-! ### Frames heard (R107 to R109, R117, R126, R128, R129, R133, R134) -/

theorem moves_mapPeers (f : List Peer → List Peer) (s : State) : Moves roleBlocks s (mapPeers f s) :=
  .quiet (by simp [calm_iff, roleBlocks])

theorem moves_answerOwner (f : StatusFrame) (s : State) : Moves roleBlocks s (answerOwner f s) := by
  unfold answerOwner
  split
  case h_1 h =>
    split
    · exact moves_giveUpTake _ (not_atRest_of_role h (by decide))
    · exact .refl
  case h_2 h =>
    split
    · exact moves_yieldWith _ _ (not_atRest_of_role h (by decide))
    · exact moves_requestStatus s
  all_goals exact .refl

theorem moves_dispatchStatus (f : StatusFrame) (s : State) : Moves roleBlocks s (dispatchStatus f s) := by
  unfold dispatchStatus
  dsimp only
  split
  · exact (moves_mapPeers _ s).trans (moves_answerOwner f _)
  · exact moves_mapPeers _ s

theorem moves_answerTake (f : TakeFrame) {s : State} (h : ¬atRest s) : Moves roleBlocks s (answerTake f s) := by
  unfold answerTake
  split
  · exact moves_yieldWith _ _ h
  · exact moves_requestStatus s

theorem moves_dispatchTake (f : TakeFrame) (s : State) : Moves roleBlocks s (dispatchTake f s) := by
  unfold dispatchTake
  dsimp only
  split
  · rename_i h
    exact (moves_mapPeers _ s).trans (moves_answerTake f (not_atRest_of_role h.2 (by decide)))
  · exact moves_mapPeers _ s

theorem moves_takerHearsYield (f : YieldFrame) {s : State} (h : ¬atRest s) : Moves roleBlocks s (takerHearsYield f s) := by
  have own : Moves roleBlocks s (if mayTransmit s then enterOwner f.lastSignature s else s) := by
    split
    · exact moves_enterOwner _ h
    · exact .refl
  unfold takerHearsYield
  split
  · exact own
  · split
    · exact own
    · exact moves_giveUpTake _ h

theorem moves_standbyHearsYield (f : YieldFrame) {s : State} (h : ¬atRest s) :
    Moves roleBlocks s (standbyHearsYield f s) := by
  unfold standbyHearsYield
  split
  · exact moves_enterOwner _ h
  · exact .refl

theorem moves_answerYield (f : YieldFrame) (s : State) : Moves roleBlocks s (answerYield f s) := by
  unfold answerYield
  split
  case h_1 h => exact moves_takerHearsYield f (not_atRest_of_role h (by decide))
  case h_2 h => exact moves_standbyHearsYield f (not_atRest_of_role h (by decide))
  all_goals exact .refl

theorem moves_dispatchYield (f : YieldFrame) (s : State) : Moves roleBlocks s (dispatchYield f s) := by
  unfold dispatchYield
  dsimp only
  split
  · exact (moves_mapPeers _ s).trans (moves_answerYield f _)
  · exact moves_mapPeers _ s

theorem moves_dispatchPayload (h : PayloadHeader) (s : State) :
    Moves (.services :: roleBlocks) s (dispatchPayload h s) := by
  unfold dispatchPayload
  split
  · unfold ownershipHears holdBackHears
    dsimp only
    split <;> exact .quiet (by simp [calm_iff, roleBlocks])
  · exact .quiet (by simp [calm_iff, roleBlocks])

theorem moves_ownAddressHeard (s : State) : Moves (.gau :: roleBlocks) s (ownAddressHeard s) := by
  unfold ownAddressHeard
  split
  · exact moves_addressClash s
  · exact .refl

theorem moves_receive {bs : List Block} (hbs : .gau :: roleBlocks ⊆ bs) (good : Bool) (a : Address) {f : State → State}
    (hf : ∀ s, Moves bs s (f s)) (s : State) : Moves bs s (receive good a f s) := by
  have view (v : State) (hv : calm [.ri] s v ∧ v.sau.credit = s.sau.credit) : Moves bs s v :=
    (Moves.quiet hv).mono fun b hb => hbs (List.mem_cons_of_mem _ (ri_roleBlocks hb))
  unfold receive
  dsimp only
  split
  · refine (view (setView .busy s) (by simp [calm_iff])).trans ?_
    split
    · exact (moves_ownAddressHeard _).mono hbs
    · split
      · exact hf _
      · exact .refl
  · exact view _ (by simp [calm_iff])

theorem moves_errorEvent (b : List Byte) (s : State) : Moves [.ri] s (errorEvent b s) := by
  unfold errorEvent
  split
  · exact .quiet (by simp [calm_iff])
  · exact .refl

theorem moves_ownAddressEvent (b : List Byte) (s : State) : Moves (.gau :: roleBlocks) s (ownAddressEvent b s) := by
  unfold ownAddressEvent
  split
  · exact .refl
  · split
    · exact (Moves.quiet (by simp [calm_iff, roleBlocks])).trans (moves_ownAddressHeard _)
    · exact .refl

/-! ### Decoded records (R146 to R148, R152 to R157, R170) -/

theorem moves_offerRecord (e : QueueEntry) (s : State) : Moves roleBlocks s (offerRecord e s) := by
  unfold offerRecord
  split
  · rename_i h
    split
    · exact (Move.credit (by simp [calm_iff, roleBlocks]) h (admitEntry_inRange e)).moves
    all_goals exact .quiet (by simp [calm_iff, roleBlocks])
  · exact .quiet (by simp [calm_iff, roleBlocks])

theorem moves_drainOffer {s : State} (h : s.ou.role = .owner) : Moves roleBlocks s (drainOffer s) :=
  (Move.credit (by simp [calm_iff, roleBlocks]) h drainOffer_inRange).moves

theorem moves_goLive (s : State) : Moves roleBlocks s (goLive s) := .quiet (by simp [calm_iff, roleBlocks])

theorem moves_standbyRecord (r : RingEntry) (s : State) : Moves roleBlocks s (standbyRecord r s) :=
  .quiet (by simp [calm_iff, roleBlocks])

theorem moves_catchUpGap (r : RingEntry) (s : State) : Moves roleBlocks s (catchUpGap r s) :=
  (Moves.quiet (by simp [calm_iff, roleBlocks])).trans (moves_offerRecord _ _)

theorem moves_catchUpRecord (r : RingEntry) (s : State) : Moves roleBlocks s (catchUpRecord r s) := by
  have count : Moves roleBlocks s { s with hbu := { s.hbu with catchUpCount := s.hbu.catchUpCount + 1 } } :=
    .quiet (by simp [calm_iff, roleBlocks])
  unfold catchUpRecord
  dsimp only
  split
  · exact count.trans (moves_catchUpGap r _)
  · split
    · exact count
    · split
      · split <;> exact .quiet (by simp [calm_iff, roleBlocks])
      · exact count.trans (moves_catchUpGap r _)

theorem moves_drainRecord (r : RingEntry) {s : State} (h : s.ou.role = .owner) : Moves roleBlocks s (drainRecord r s) := by
  unfold drainRecord
  dsimp only
  split
  · exact (Moves.quiet (by simp [calm_iff, roleBlocks])).trans (moves_offerRecord _ _)
  · exact (Moves.quiet (by simp [calm_iff, roleBlocks])).trans (moves_drainOffer (by simp [h]))

theorem moves_takeRecord (r : RingEntry) (s : State) : Moves roleBlocks s (takeRecord r s) := by
  unfold takeRecord
  split
  case h_1 | h_2 => exact moves_standbyRecord r s
  case h_3 h =>
    split
    · exact moves_offerRecord _ s
    · exact moves_catchUpRecord r s
    · exact moves_drainRecord r h
    · exact .refl
  all_goals exact .refl

theorem moves_deliver (d : Route) (r : RingEntry) (s : State) : Moves roleBlocks s (deliver d r s) := by
  cases d with
  | holdBack => exact moves_takeRecord r s
  | admission => exact moves_offerRecord _ s

/-! ## Moves of the acquisition state (chapters 1 to 4) -/

/-- The blocks a departure from TRACK and the role change it brings reach. -/
def trackBlocks : List Block := [.gau, .pru] ++ roleBlocks

theorem trackBlocks_subset : trackBlocks ⊆ acquisitionBlocks := by decide

theorem roleBlocks_subset : roleBlocks ⊆ acquisitionBlocks := by decide

/-- A change of the acquisition state is a setting of it, the role's move and the lamp's (R1, R121, R189). -/
theorem moves_changeAcq {bs : List Block} (new : AcqState) (hn : new ≠ .idle) {s : State} (hs : s.gau.acq ≠ .idle)
    (hb : .gau :: roleBlocks ⊆ bs) (hp : s.gau.acq = .track → .pru ∈ bs) : Moves bs s (changeAcq new s) := by
  have hr : roleBlocks ⊆ bs := fun _ h => hb (List.mem_cons_of_mem _ h)
  have lamp (u : State) : Moves bs u (refreshLamp u) :=
    (Moves.quiet (bs := roleBlocks) (by simp [calm_iff, roleBlocks])).mono hr
  unfold changeAcq
  dsimp only
  split
  · exact lamp s
  · refine (Move.acq new (not_atRest_of_acq rfl hs) (hb List.mem_cons_self) hp).moves.trans (.trans ?_ (lamp _))
    exact (moves_roleAtAcqChange new (not_atRest_of_acq (by rfl) hn)).mono hr

theorem moves_enterGain {bs : List Block} {s : State} (hs : s.gau.acq ≠ .idle)
    (hb : [.gau, .ib] ++ roleBlocks ⊆ bs) (hp : s.gau.acq = .track → .pru ∈ bs) : Moves bs s (enterGain s) := by
  have hg : .gau :: roleBlocks ⊆ bs := fun b h => hb (by simp only [List.mem_cons] at h; rcases h with rfl | h <;> simp_all)
  have start : Moves ([.gau, .ib] ++ roleBlocks) s { s with
      gau := { s.gau with measurementCount := 0, settleRun := 0, trialSamples := #[] }, ib := restartBlanker s.ib } :=
    .quiet (by simp [calm_iff])
  exact (start.mono hb).trans (moves_changeAcq .gain (by decide) hs hg hp)

theorem moves_enterSymbol {s : State} (hs : s.gau.acq ≠ .idle) : Moves acquisitionBlocks s (enterSymbol s) := by
  have start : Moves acquisitionBlocks s { s with
      gau := { s.gau with failedTrials := 0, held := none, current := none, trialSamples := #[] }
      ib := dropSymbolCounts s.ib
      wu := dropGrid s.wu
      pru := { s.pru with errorRun := 0, slot := .empty } } := .quiet (by simp [calm_iff, acquisitionBlocks])
  exact start.trans (moves_changeAcq .symbol (by decide) hs (by decide) fun _ => by decide)

theorem moves_enterFrameSearch {bs : List Block} (t : TrialScore) {s : State} (hs : s.gau.acq ≠ .idle)
    (hb : [.gau, .ib, .wu] ++ roleBlocks ⊆ bs) (hp : s.gau.acq = .track → .pru ∈ bs) :
    Moves bs s (enterFrameSearch t s) := by
  have hg : .gau :: roleBlocks ⊆ bs := fun b h => hb (by simp only [List.mem_cons] at h; rcases h with rfl | h <;> simp_all)
  have start : Moves ([.gau, .ib, .wu] ++ roleBlocks) s { s with
      gau := { s.gau with
        held := some t.candidate, trialSamples := #[], subState := .search, passCount := 0, searchCount := 0,
        candidate := none }
      ib := startSymbolCounts s.ib
      wu := setGrid t s.wu } := .quiet (by simp [calm_iff])
  exact (start.mono hb).trans (moves_changeAcq .frame (by decide) hs hg hp)

theorem moves_enterFrameConfirm (g : Signalling) {s : State} (hs : s.gau.acq ≠ .idle) :
    Moves trackBlocks s (enterFrameConfirm g s) := by
  have start : Moves trackBlocks s { s with
      gau := { s.gau with subState := .confirm, candidate := some g, passCount := 0 } } :=
    .quiet (by simp [calm_iff, trackBlocks])
  exact start.trans (moves_changeAcq .frame (by decide) hs (by decide) fun _ => by decide)

theorem moves_enterTrack (g : Option Signalling) {s : State} (hs : s.gau.acq ≠ .idle) :
    Moves trackBlocks s (enterTrack g s) := by
  have start : Moves trackBlocks s { s with
      gau := { s.gau with current := g, syncMissRun := 0, clipRun := 0 }
      pru := { s.pru with tallies := .zero, signalling := g } } := .quiet (by simp [calm_iff, trackBlocks])
  exact start.trans (moves_changeAcq .track (by decide) hs (by decide) fun _ => by decide)

theorem moves_enterHold {s : State} (hs : s.gau.acq ≠ .idle) : Moves trackBlocks s (enterHold s) := by
  have start : Moves trackBlocks s { s with gau := { s.gau with holdCount := 0 } } :=
    .quiet (by simp [calm_iff, trackBlocks])
  exact start.trans (moves_changeAcq .hold (by decide) hs (by decide) fun _ => by decide)

theorem moves_recordCause (c : Cause) (s : State) : Moves trackBlocks s (recordCause c s) :=
  (Move.record c (by decide)).moves

theorem moves_reportCause (c : Cause) (s : State) : Moves trackBlocks s (reportCause c s) := by
  unfold reportCause
  dsimp only
  split
  · rename_i h
    exact (moves_recordCause c s).trans (moves_enterHold (by rw [h]; decide))
  · exact moves_recordCause c s

/-! ### Gain measurements and trials (R2 to R9) -/

/-- The settle run after a measurement in GAIN, of its error when it is not void (R7). -/
def settleRunAfter (e : Option Int) (run : Nat) : Nat :=
  match e with
  | none => 0
  | some e => if e.natAbs ≤ 10 then run + 1 else 0

/-- The counts of a measurement in GAIN (R7). -/
def countMeasurement (e : Option Int) (s : State) : State :=
  { s with gau := { s.gau with
      measurementCount := s.gau.measurementCount + 1, settleRun := settleRunAfter e s.gau.settleRun } }

theorem gainMeasured_eq (e : Option Int) (s : State) : gainMeasured e s =
    if 8 ≤ settleRunAfter e s.gau.settleRun then
      enterSymbol { countMeasurement e s with gau := { (countMeasurement e s).gau with noSignalRestarts := 0 } }
    else if 200 ≤ s.gau.measurementCount + 1 then
      enterGain { countMeasurement e s with gau := { (countMeasurement e s).gau with
        noSignalRestarts := satAdd 255 s.gau.noSignalRestarts 1 } }
    else countMeasurement e s := by
  cases e <;> rfl

theorem moves_gainMeasured (e : Option Int) {s : State} (hs : s.gau.acq ≠ .idle) :
    Moves acquisitionBlocks s (gainMeasured e s) := by
  have count : Moves acquisitionBlocks s (countMeasurement e s) :=
    .quiet (by simp [countMeasurement, calm_iff, acquisitionBlocks])
  rw [gainMeasured_eq]
  split
  · exact count.trans <| (Moves.quiet (by simp [calm_iff, acquisitionBlocks])).trans (moves_enterSymbol hs)
  · split
    · exact count.trans <| (Moves.quiet (by simp [calm_iff, acquisitionBlocks])).trans
        (moves_enterGain hs (by decide) fun _ => by decide)
    · exact count

theorem moves_clipMeasured (step : Int) (s : State) : Moves acquisitionBlocks s (clipMeasured step s) := by
  unfold clipMeasured
  split
  · split
    · exact (Moves.quiet (by simp [calm_iff, acquisitionBlocks])).trans
        ((moves_reportCause _ _).mono trackBlocks_subset)
    · exact .quiet (by simp [calm_iff, acquisitionBlocks])
  · exact .quiet (by simp [calm_iff, acquisitionBlocks])

/-- The next block begins after a void one (R2). -/
def voidMeasured (s : State) : State := { s with gau := startBlock s.gau }

/-- A measurement that is not void sets the pending duty and the level, and ends the suspension of blanking (R2, R3, R47). -/
def fullyMeasured (s : State) : State :=
  { s with gau := startBlock (setPending s.gau), ib := { s.ib with suspended := false } }

/-- The fields of a measurement, its duty under a name: compared field by field with another record, the duty would have Lean
compute the level. -/
theorem setPending_eq (g : Gau) : ∃ duty, duty = pendingDutyFor g.appliedDuty (gainStep (blockError g))
    ∧ setPending g = { g with
      pendingDuty := duty, transferPending := true, rms := .measured g.blockEnergy (1024 - g.blockBlanked) } :=
  ⟨_, rfl, rfl⟩

theorem fullyMeasured_eq (s : State) : ∃ duty, duty = pendingDutyFor s.gau.appliedDuty (gainStep (blockError s.gau))
    ∧ fullyMeasured s = { s with
      gau := { s.gau with
        pendingDuty := duty, transferPending := true, rms := .measured s.gau.blockEnergy (1024 - s.gau.blockBlanked),
        blockCount := 0, blockBlanked := 0, blockEnergy := 0 }
      ib := { s.ib with suspended := false } } := by
  obtain ⟨duty, hd, h⟩ := setPending_eq s.gau
  exact ⟨duty, hd, by rw [fullyMeasured, h]; rfl⟩

theorem voidMeasured_acq (s : State) : (voidMeasured s).gau.acq = s.gau.acq := rfl

theorem fullyMeasured_acq (s : State) : (fullyMeasured s).gau.acq = s.gau.acq := by
  obtain ⟨_, -, h⟩ := fullyMeasured_eq s
  rw [h]

theorem takeMeasurement_void {s : State} (h : blockVoid s.gau = true) : takeMeasurement s =
    if s.gau.acq = .gain then gainMeasured none (voidMeasured s) else voidMeasured s := by
  rw [takeMeasurement, if_pos h]; rfl

theorem takeMeasurement_full {s : State} (h : blockVoid s.gau = false) : takeMeasurement s =
    if s.gau.acq = .gain then gainMeasured (some (blockError s.gau)) (fullyMeasured s)
    else if s.gau.acq = .track then clipMeasured (gainStep (blockError s.gau)) (fullyMeasured s)
    else fullyMeasured s := by
  have hn : ¬blockVoid s.gau = true := by simp [h]
  rw [takeMeasurement, if_neg hn]
  simp only [← fullyMeasured_acq s]
  rfl

theorem moves_takeMeasurement {s : State} (hs : s.gau.acq ≠ .idle) : Moves acquisitionBlocks s (takeMeasurement s) := by
  have void : Moves acquisitionBlocks s (voidMeasured s) :=
    .quiet (by simp [voidMeasured, startBlock, calm_iff, acquisitionBlocks])
  have full : Moves acquisitionBlocks s (fullyMeasured s) := by
    obtain ⟨_, -, h⟩ := fullyMeasured_eq s
    rw [h]
    exact .quiet (by simp [calm_iff, acquisitionBlocks])
  have void_acq : (voidMeasured s).gau.acq ≠ .idle := hs
  have full_acq : (fullyMeasured s).gau.acq ≠ .idle := by rw [fullyMeasured_acq]; exact hs
  cases hv : blockVoid s.gau with
  | true =>
    rw [takeMeasurement_void hv]
    split
    · exact void.trans (moves_gainMeasured none void_acq)
    · exact void
  | false =>
    rw [takeMeasurement_full hv]
    split
    · exact full.trans (moves_gainMeasured _ full_acq)
    · split
      · exact full.trans (moves_clipMeasured _ _)
      · exact full

theorem moves_measureIfDue (s : State) : Moves acquisitionBlocks s (measureIfDue s) := by
  unfold measureIfDue
  split
  · rename_i h
    simp only [measurementDue, decide_eq_true_eq] at h
    exact moves_takeMeasurement h.1
  · exact .refl

/-- The blocks a trial's end reaches: all that an acquisition state other than TRACK leaves to change. -/
def trialBlocks : List Block := [.gau, .ib, .wu] ++ roleBlocks

theorem trialBlocks_subset : trialBlocks ⊆ acquisitionBlocks := by decide

theorem moves_failTrial {s : State} (hs : s.gau.acq = .symbol) : Moves trialBlocks s (failTrial s) := by
  unfold failTrial
  dsimp only
  split
  · refine (Moves.quiet (by simp [calm_iff, trialBlocks])).trans (moves_enterGain ?_ (by decide) ?_) <;> simp [hs]
  · exact .quiet (by simp [calm_iff, trialBlocks])

theorem moves_endTrialIfDue (s : State) : Moves trialBlocks s (endTrialIfDue s) := by
  have count : Moves trialBlocks s { s with freeCount := s.freeCount + 1 } := .quiet (by simp [calm_iff])
  unfold endTrialIfDue
  split
  · rename_i h
    simp only [trialDue, decide_eq_true_eq] at h
    unfold takeTrialEnd
    dsimp only
    split
    · exact count.trans (moves_enterFrameSearch _ (by simp [h.1]) (by decide) (by simp [h.1]))
    · exact count.trans (moves_failTrial h.1)
  · exact .refl

/-! ### Frame passes, the hold limit and the signalling decoder's reports (R10 to R16) -/

theorem moves_countPass {s : State} (hs : s.gau.acq ≠ .idle) : Moves acquisitionBlocks s (countPass s) := by
  unfold countPass
  dsimp only
  split
  · exact (Moves.quiet (by simp [calm_iff, acquisitionBlocks])).trans (moves_enterSymbol hs)
  · exact .quiet (by simp [calm_iff, acquisitionBlocks])

theorem moves_takePass {s : State} (hs : passDue s = true) : Moves acquisitionBlocks s (takePass s) := by
  simp only [passDue, decide_eq_true_eq] at hs
  exact (Moves.quiet (by simp [calm_iff, acquisitionBlocks])).trans
    (moves_countPass (s := { s with gau := { s.gau with searchCount := 0 } }) (by simp [hs.1]))

theorem moves_takeHoldLimit {s : State} (hs : holdLimitDue s = true) : Moves acquisitionBlocks s (takeHoldLimit s) := by
  simp only [holdLimitDue, decide_eq_true_eq] at hs
  exact (Moves.quiet (by simp [calm_iff, acquisitionBlocks])).trans
    (moves_enterSymbol (s := { s with gau := { s.gau with fallsHold := satAdd 255 s.gau.fallsHold 1 } }) (by simp [hs.1]))

theorem moves_settlePass (s : State) : Moves acquisitionBlocks s (settlePass s) := by
  unfold settlePass
  split
  · exact moves_takePass ‹_›
  · exact .refl

theorem moves_settleFrameCounts (s : State) : Moves acquisitionBlocks s (settleFrameCounts s) := by
  unfold settleFrameCounts
  split
  · exact moves_takePass ‹_›
  · split
    · exact moves_takeHoldLimit ‹_›
    · exact .refl

theorem moves_takeSyncFound (s : State) : Moves acquisitionBlocks s (takeSyncFound s) := by
  have confirm (u : State) : Moves acquisitionBlocks u (confirmSync u) := by
    unfold confirmSync
    split
    · exact .quiet (by simp [calm_iff, acquisitionBlocks])
    · exact .refl
  exact (moves_settlePass s).trans (confirm _)

theorem moves_checkInConfirm (r : FrameReport) {s : State} (hs : s.gau.acq ≠ .idle) :
    Moves acquisitionBlocks s (checkInConfirm r s) := by
  have pass (u : State) (hu : calm [.gau] s u ∧ u.sau.credit = s.sau.credit) : Moves acquisitionBlocks s (countPass u) := by
    refine ((Moves.quiet hu).mono (by decide)).trans (moves_countPass ?_)
    obtain ⟨⟨-, -, -, hacq, -⟩, -⟩ := hu
    rwa [hacq]
  unfold checkInConfirm
  split
  · split
    · exact pass _ (by simp [calm_iff])
    · split
      · exact (moves_enterTrack _ hs).mono trackBlocks_subset
      · exact pass _ (by simp [calm_iff])
  · exact pass _ (by simp [calm_iff])

theorem moves_signallingChanged (g : Signalling) {s : State} (hs : s.gau.acq ≠ .idle) :
    Moves trackBlocks s (signallingChanged g s) :=
  (moves_recordCause _ s).trans (moves_enterFrameConfirm g hs)

theorem moves_checkInTrack (r : FrameReport) {s : State} (hs : s.gau.acq ≠ .idle) :
    Moves trackBlocks s (checkInTrack r s) := by
  unfold checkInTrack
  split
  · split
    · exact .quiet (by simp [calm_iff, trackBlocks])
    · split
      · exact .quiet (by simp [calm_iff, trackBlocks])
      · exact moves_signallingChanged _ hs
  · split
    · exact (Moves.quiet (by simp [calm_iff, trackBlocks])).trans
        ((moves_recordCause .frameLost { s with gau := { s.gau with syncMissRun := 0 } }).trans (moves_enterHold hs))
    · exact .quiet (by simp [calm_iff, trackBlocks])

theorem moves_checkInHold (r : FrameReport) {s : State} (hs : s.gau.acq ≠ .idle) :
    Moves trackBlocks s (checkInHold r s) := by
  unfold checkInHold
  split
  · split
    · exact moves_enterTrack _ hs
    · split
      · exact moves_enterTrack _ hs
      · exact moves_signallingChanged _ hs
  · exact .refl

theorem moves_takeFrameCheck (r : FrameReport) (s : State) : Moves acquisitionBlocks s (takeFrameCheck r s) := by
  unfold takeFrameCheck
  split
  case h_1 h =>
    split
    · exact moves_checkInConfirm r (by simp [h])
    · exact .refl
  case h_2 h => exact (moves_checkInTrack r (by simp [h])).mono trackBlocks_subset
  case h_3 h => exact (moves_checkInHold r (by simp [h])).mono trackBlocks_subset
  all_goals exact .refl

/-! ### Symbol boundaries (R21, R22, R38, R39, R48 to R50, R64) -/

@[simp] theorem completeSlot_smoothed (acq : AcqState) (p : Pru) : (completeSlot acq p).smoothed = p.smoothed := by
  unfold completeSlot; split <;> rfl

@[simp] theorem gauBoundary_keeps (g : Gau) :
    (gauBoundary g).acq = g.acq ∧ (gauBoundary g).causes = g.causes ∧ (gauBoundary g).carried = g.carried := by
  unfold gauBoundary; split <;> (try split) <;> simp

/-- The erasure burst run as a boundary's verdict leaves it, before the report at 8 (R50). -/
def burstRunAfter (erased : Bool) (run : Nat) : Nat := if erased then run + 1 else 0

/-- A boundary's verdict reaches the packet recovery unit and the window unit (R49, R64, R27). -/
def symbolClosed (erased : Bool) (s : State) : State :=
  { s with
    pru := completeSlot s.gau.acq { s.pru with slot := slotVerdict erased s.pru.slot }
    wu := { s.wu with erasedCount := if erased then satAdd 4 s.wu.erasedCount 1 else s.wu.erasedCount }
    ib := { s.ib with
      blankedCount := 0
      burstRun := if 8 ≤ burstRunAfter erased s.ib.burstRun then 0 else burstRunAfter erased s.ib.burstRun } }

theorem closeSymbol_eq (erased : Bool) (s : State) : closeSymbol erased s =
    if 8 ≤ burstRunAfter erased s.ib.burstRun then reportCause .erasureBurst (symbolClosed erased s)
    else symbolClosed erased s := rfl

theorem moves_closeSymbol (e : Bool) (s : State) : Moves acquisitionBlocks s (closeSymbol e s) := by
  have closed : Moves acquisitionBlocks s (symbolClosed e s) :=
    .quiet (by simp [symbolClosed, calm_iff, acquisitionBlocks])
  rw [closeSymbol_eq]
  split
  · exact closed.trans ((moves_reportCause _ _).mono trackBlocks_subset)
  · exact closed

theorem moves_blankerBoundary (s : State) : Moves acquisitionBlocks s (blankerBoundary s) := by
  unfold blankerBoundary
  split
  · exact .refl
  · split
    · exact .quiet (by simp [calm_iff, acquisitionBlocks])
    · exact moves_closeSymbol _ s

theorem moves_windowBoundary (b : Bool) (s : State) : Moves acquisitionBlocks s (windowBoundary b s) := by
  have transfer : Moves acquisitionBlocks s { s with wu := transferWindow s.wu } :=
    .quiet (by simp [calm_iff, acquisitionBlocks])
  unfold windowBoundary
  split
  · split
    · exact .refl
    · exact transfer
    · split
      · exact transfer.trans ((moves_reportCause _ _).mono trackBlocks_subset)
      · exact .refl
  · exact .refl

theorem moves_takeBoundary (b : Bool) (s : State) : Moves acquisitionBlocks s (takeBoundary b s) := by
  have count : Moves acquisitionBlocks s
      { s with wu := markBoundary (advanceCounters s.wu), gau := gauBoundary s.gau } :=
    .quiet (by simp [calm_iff, acquisitionBlocks])
  unfold takeBoundary
  dsimp only
  split
  · exact count.trans ((moves_windowBoundary _ _).trans (moves_blankerBoundary _))
  · exact count.trans ((moves_blankerBoundary _).trans (moves_windowBoundary _ _))

theorem moves_boundaryEvent (b : Bool) (s : State) : Moves acquisitionBlocks s (boundaryEvent b s) := by
  unfold boundaryEvent
  dsimp only
  split
  · exact (moves_settleFrameCounts s).trans (moves_takeBoundary b _)
  · exact moves_settleFrameCounts s

theorem moves_attempt_acquisition (s : State) : Moves acquisitionBlocks s (attempt s) :=
  (moves_attempt s).mono (by decide)

theorem moves_boundaryBefore (b : Bool) (s : State) : Moves acquisitionBlocks s (boundaryBefore b s) := by
  unfold boundaryBefore
  split
  · exact (moves_boundaryEvent true s).trans (moves_attempt_acquisition _)
  · exact .refl

theorem moves_merEvent (mer : Int) (s : State) : Moves [.pru] s (merEvent mer s) := by
  unfold merEvent takeMer
  split
  · exact .quiet (by simp [calm_iff])
  · exact .refl

/-! ### Samples (R44) -/

theorem moves_settleSamples (s : State) : Moves acquisitionBlocks s (settleSamples s) := by
  have blanker : Moves acquisitionBlocks s { s with ib := settleBlanker s.cfg.runEnd s.ib } :=
    .quiet (by simp [calm_iff, acquisitionBlocks])
  exact blanker.trans <| (moves_measureIfDue _).trans <| ((moves_endTrialIfDue _).mono trialBlocks_subset).trans <|
    (moves_boundaryEvent true _).trans (moves_settleFrameCounts _)

@[simp] theorem gauSample_keeps (b : Bool) (d : Sample) (g : Gau) :
    (gauSample b d g).acq = g.acq ∧ (gauSample b d g).causes = g.causes := by
  unfold gauSample blockSample; dsimp only; split <;> simp

theorem moves_takeSample (d : Sample) (s : State) : Moves acquisitionBlocks s (takeSample d s) := by
  unfold takeSample
  dsimp only
  split <;> exact .quiet (by simp [calm_iff, acquisitionBlocks])

/-! ### Decoded packets and what waits (R57 to R63, R77 to R81) -/

/-- The blocks a decoded packet reaches. -/
def packetBlocks : List Block := [.gau, .pru, .services, .waiting] ++ roleBlocks

theorem roleBlocks_packet : roleBlocks ⊆ packetBlocks := by decide

theorem moves_settleRecord (s : State) : Moves packetBlocks s (settleRecord s) := by
  unfold settleRecord
  split
  · exact .refl
  · exact (Moves.quiet (by simp [calm_iff, packetBlocks])).trans ((moves_deliver _ _ _).mono roleBlocks_packet)

theorem moves_settleBurst (s : State) : Moves packetBlocks s (settleBurst s) := by
  unfold settleBurst
  split
  · exact (Moves.quiet (by simp [calm_iff, packetBlocks])).trans ((moves_reportCause _ _).mono (by decide))
  · exact .refl

theorem moves_attempt_packet (s : State) : Moves packetBlocks s (attempt s) := (moves_attempt s).mono (by decide)

theorem moves_takeWaiting (s : State) : Moves packetBlocks s (takeWaiting s) := by
  unfold takeWaiting
  split
  · exact .refl
  · exact (moves_settleRecord s).trans ((moves_settleBurst _).trans (moves_attempt_packet _))

theorem moves_handOn (later : Bool) (r : RingEntry) (s : State) : Moves packetBlocks s (handOn later r s) := by
  unfold handOn
  split
  · exact .refl
  · split
    · exact .quiet (by simp [calm_iff, packetBlocks])
    · exact (moves_deliver _ r s).mono roleBlocks_packet

theorem moves_lookup (later : Bool) (r : PacketRecord) (s : State) : Moves packetBlocks s (lookup later r s) := by
  unfold lookup
  split
  · exact .refl
  · split
    · exact .refl
    · split
      · exact .quiet (by simp [calm_iff, packetBlocks, roleBlocks])
      · exact (Moves.quiet (by simp [calm_iff, packetBlocks])).trans (moves_handOn later _ _)

theorem moves_countError (e : Bool) (s : State) : Moves packetBlocks s (countError e s) := by
  unfold countError
  dsimp only
  split <;> exact .quiet (by simp [calm_iff, packetBlocks])

theorem moves_takePacket (p : Packet) (u later : Bool) (s : State) : Moves packetBlocks s (takePacket p u later s) := by
  unfold takePacket
  split
  case h_1 =>
    unfold packetInTrack
    dsimp only
    exact (Moves.quiet (by simp [calm_iff, packetBlocks])).trans ((moves_lookup later _ _).trans (moves_countError _ _))
  case h_2 => exact moves_countError _ s
  all_goals exact .refl

theorem moves_packetEvent (p : Packet) (r : PacketReport) (s : State) : Moves packetBlocks s (packetEvent p r s) := by
  have taken := (moves_settleRecord s).trans (moves_takePacket p r.uncorrectable r.recordLater _)
  unfold packetEvent
  dsimp only
  split
  · exact taken
  · exact taken.trans (moves_settleBurst _)

/-! ## A change of the acquisition state, block by block (R1, R73) -/

theorem changeAcq_gau (n : AcqState) (s : State) : (changeAcq n s).gau = { s.gau with acq := n } := by
  unfold changeAcq
  dsimp only
  split
  · rename_i h; simp [← h]
  · simp

theorem changeAcq_pru (n : AcqState) (s : State) :
    (changeAcq n s).pru = if s.gau.acq = .track ∧ n ≠ .track then leaveTrack s.pru else s.pru := by
  unfold changeAcq
  dsimp only
  split
  · rename_i h; simp [h]
  · rename_i h
    by_cases ht : s.gau.acq = .track
    · simp [ht, show n ≠ .track from fun hn => h (ht.trans hn.symm)]
    · simp [ht]

theorem roleAtAcqChange_absent {n : AcqState} {s : State} (hr : s.ou.role = .absent) (hn : n ≠ .track) :
    roleAtAcqChange n s = s := by
  simp [roleAtAcqChange, hr, hn]

/-- A station at rest leaves IDLE for GAIN with no move of its role (R6, R121). -/
theorem enterGain_atRest {s : State} (h : atRest s) : enterGain s = refreshLamp { s with
    gau := { s.gau with acq := .gain, measurementCount := 0, settleRun := 0, trialSamples := #[] }
    ib := restartBlanker s.ib } := by
  obtain ⟨hacq, hrole⟩ := h
  unfold enterGain changeAcq
  simp only [hacq, reduceCtorEq, if_false]
  rw [roleAtAcqChange_absent (by exact hrole) (by decide)]

/-- What the image kept gives the station when configuration completes, but for the entry into GAIN (R76, R114, R168, R187). -/
def released (kept : List Record) (s : State) : State :=
  { s with
    loader := { s.loader with state := .complete, stage := .idle, kept := [], clamped := imageClamped kept }
    cfg := takenConfiguration kept
    services := (imageEntries kept).map loadedEntry
    ou := { s.ou with reportTimer := some (takenConfiguration kept).reportPeriod }
    sau := { s.sau with ticking := true } }

theorem completeFetch_eq (s : State) : completeFetch s = enterGain (released s.loader.kept s) := rfl

theorem completeFetch_gau (s : State) :
    (completeFetch s).gau = { s.gau with acq := .gain, measurementCount := 0, settleRun := 0, trialSamples := #[] } := by
  rw [completeFetch_eq, enterGain, changeAcq_gau]; rfl

/-! ## What a command brings about -/

/-- How the effect of a command begins, before the moves it then makes. But for the commands named here it begins with the state
as it stands. -/
inductive Begins (c : Instr) (s : State) : State → Prop
  | plain : Begins c s s
  /-- The level of the SILENCE pin (R193). -/
  | silence (b : Bool) (hc : c = .silenceAssert ∨ c = .silenceRelease) : Begins c s { s with silence := b }
  /-- The end of reset (R177, R178). -/
  | leave (straps : BitVec 4) (hc : c = .resetEnd straps) : Begins c s (leaveReset straps s)
  /-- The fetch goes on or ends in a fault (R179 to R184). -/
  | fetch (l : Loader) (i : Indicator) (hb : .loader ∈ blocksOf c) (hi : .iu ∈ blocksOf c ∨ i = s.iu)
      (hs : s.loader.state ≠ .complete) (hl : l.state ≠ .complete) : Begins c s { s with loader := l, iu := i }
  /-- Configuration completes (R187). -/
  | complete (l : Loader) (hc : (∃ d, c = .headerRead d) ∨ ∃ d, c = .recordRead d) (hs : s.loader.state ≠ .complete) :
      Begins c s (completeFetch { s with loader := l })
  /-- A STATUS completes (R18, R103, R104). -/
  | report (f : StatusFrame) (hc : c = .frameSent) (ht : s.ri.tx = .transmitting (.status f)) :
      Begins c s (settleReports (settleCauses (stopDriving s)))

/-- The effect of a command: how it begins, the moves it makes within its own blocks, and last, but for a decoded packet, the
taking of what an earlier packet's event left on its way (assumption log 28). -/
def brings (c : Instr) (s t : State) : Prop :=
  ∃ u v, Begins c s u ∧ Moves (blocksOf c) u v ∧ (t = v ∨ (.waiting ∉ blocksOf c ∧ t = takeWaiting v))

theorem brings_of_moves {c : Instr} {s t : State} (h : Moves (blocksOf c) s t) : brings c s t :=
  ⟨s, t, .plain, h, .inl rfl⟩

/-- A gated command brings about what its own effect begins and moves. -/
theorem brings_of_gated {c : Instr} {f : State → State} {s t : State} (hw : .waiting ∉ blocksOf c)
    (h : whenRunning f s = .next t) (hf : ∃ u, Begins c s u ∧ Moves (blocksOf c) u (f s)) : brings c s t := by
  unfold whenRunning at h
  split at h <;> cases h
  · exact brings_of_moves .refl
  · obtain ⟨u, hu, hm⟩ := hf
    exact ⟨u, f s, hu, hm, .inr ⟨hw, rfl⟩⟩

/-- A gated command whose effect is a run of moves. -/
theorem brings_of_gated_moves {c : Instr} {f : State → State} {s t : State} (h : whenRunning f s = .next t)
    (hw : .waiting ∉ blocksOf c) (hf : Moves (blocksOf c) s (f s)) : brings c s t :=
  brings_of_gated hw h ⟨s, .plain, hf⟩

/-! ### The configuration fetch -/

/-- A fetch's read goes on, ends in a fault or completes configuration. -/
theorem begins_structuralFault {c : Instr} {s : State} (l : Loader) (hc : (∃ d, c = .headerRead d) ∨ ∃ d, c = .recordRead d)
    (hs : s.loader.state ≠ .complete) : Begins c s (structuralFault { s with loader := l }) := by
  have hb : Block.loader ∈ blocksOf c ∧ Block.iu ∈ blocksOf c := by
    rcases hc with ⟨d, rfl⟩ | ⟨d, rfl⟩ <;> simp [blocksOf]
  have he : structuralFault { s with loader := l } = { s with
      loader := { l with state := .configFault, stage := .idle, imageLength := 0, kept := [], retryTimer := some 2000 }
      iu := (structuralFault { s with loader := l }).iu } := by
    unfold structuralFault refreshLamp; split <;> rfl
  rw [he]
  exact .fetch _ _ hb.1 (.inl hb.2) hs (by simp)

theorem begins_walkTo {c : Instr} {s : State} (a : Nat) (l : Loader) (hc : (∃ d, c = .headerRead d) ∨ ∃ d, c = .recordRead d)
    (hs : s.loader.state ≠ .complete) (hl : l.state ≠ .complete) : Begins c s (walkTo a { s with loader := l }) := by
  have hb : Block.loader ∈ blocksOf c := by rcases hc with ⟨d, rfl⟩ | ⟨d, rfl⟩ <;> simp [blocksOf]
  unfold walkTo
  split
  · unfold endWalk
    split
    · exact .complete l hc hs
    · exact begins_structuralFault l hc hs
  · split
    · exact .fetch _ s.iu hb (.inr rfl) hs hl
    · exact begins_structuralFault l hc hs

theorem begins_takeHeader (d : List Byte) {s : State} (hs : s.loader.state ≠ .complete) :
    Begins (.headerRead d) s (takeHeader d s) := by
  unfold takeHeader
  split
  · exact begins_walkTo _ _ (.inl ⟨d, rfl⟩) hs hs
  · exact begins_structuralFault s.loader (.inl ⟨d, rfl⟩) hs

theorem begins_takeRecordRead (a : Nat) (d : List Byte) {s : State} (hs : s.loader.state ≠ .complete) :
    Begins (.recordRead d) s (takeRecordRead a d s) := by
  unfold takeRecordRead
  split
  · exact begins_structuralFault s.loader (.inr ⟨d, rfl⟩) hs
  · unfold keepRecord
    dsimp only
    split
    · exact begins_structuralFault _ (.inr ⟨d, rfl⟩) hs
    · exact begins_walkTo _ _ (.inr ⟨d, rfl⟩) hs hs

theorem fetchAt_iff {g : FetchStage} {s : State} :
    fetchAt g s = true ↔ s.loader.stage = g ∧ s.loader.state ≠ .complete := by
  simp [fetchAt]

theorem begins_fetchTo {c : Instr} {g g' : FetchStage} (s : State) (hb : .loader ∈ blocksOf c) :
    Begins c s (if fetchAt g s then fetchTo g' s else s) := by
  split
  · rename_i h
    rw [fetchAt_iff] at h
    exact .fetch _ s.iu hb (.inr rfl) h.2 h.2
  · exact .plain

/-! ### Frames sent and won -/

theorem moves_winFrame (k : Selection) (s : State) : Moves [.ri, .gau] s (winFrame k s) := by
  unfold winFrame winStatus
  split
  case h_1 => exact .quiet (by simp [calm_iff])
  all_goals split <;> exact .quiet (by simp [calm_iff])

theorem brings_completeFrame (s : State) :
    ∃ u, Begins .frameSent s u ∧ Moves (blocksOf .frameSent) u (completeFrame s) := by
  have stop : Moves roleBlocks s (stopDriving s) := .quiet (by simp [calm_iff, roleBlocks])
  have plain {t : State} (h : Moves roleBlocks s t) : ∃ u, Begins .frameSent s u ∧ Moves (blocksOf .frameSent) u t :=
    ⟨s, .plain, h.mono gau_roleBlocks⟩
  unfold completeFrame
  split
  · rename_i f ht
    unfold frameSentEffect
    split
    · exact ⟨_, .report _ rfl ht, .refl⟩
    · split
      · exact plain (stop.trans (moves_startHandover _))
      · exact plain stop
    · exact plain (stop.trans (moves_endYield _))
    · have sent (g : Signature) : Moves roleBlocks s
          { stopDriving s with ri := { (stopDriving s).ri with lastSent := some g } } :=
        .quiet (by simp [calm_iff, roleBlocks])
      dsimp only
      split
      · rename_i hd
        simp only [draining, decide_eq_true_eq] at hd
        exact plain ((sent _).trans (moves_drainOffer hd.1))
      · exact plain (sent _)
  all_goals exact plain .refl

/-! ### Every command -/

theorem brings_resetEnd (straps : BitVec 4) {s t : State} (h : execResetEnd straps s = .next t) :
    brings (.resetEnd straps) s t := by
  unfold execResetEnd at h
  split at h <;> cases h
  · exact ⟨_, _, .leave straps rfl, .refl, .inl rfl⟩
  · exact brings_of_moves .refl

theorem brings_resetEnableCommand {s t : State} (h : execResetEnableCommand s = .next t) :
    brings .resetEnableCommand s t :=
  brings_of_gated (by decide) h ⟨_, begins_fetchTo s (by decide), .refl⟩

theorem brings_resetCommand {s t : State} (h : execResetCommand s = .next t) :
    brings .resetCommand s t :=
  brings_of_gated (by decide) h ⟨_, begins_fetchTo s (by decide), .refl⟩

theorem brings_recoveryWaitEnd {s t : State} (h : execRecoveryWaitEnd s = .next t) :
    brings .recoveryWaitEnd s t :=
  brings_of_gated (by decide) h ⟨_, begins_fetchTo s (by decide), .refl⟩

theorem brings_headerRead (d : List Byte) {s t : State} (h : execHeaderRead d s = .next t) :
    brings (.headerRead d) s t := by
  refine brings_of_gated (by simp [blocksOf]) h ⟨_, ?_, .refl⟩
  split
  · rename_i hf; exact begins_takeHeader d (fetchAt_iff.mp hf).2
  · exact .plain

theorem brings_recordRead (d : List Byte) {s t : State} (h : execRecordRead d s = .next t) :
    brings (.recordRead d) s t := by
  refine brings_of_gated (by simp [blocksOf]) h ⟨_, ?_, .refl⟩
  unfold recordReadEvent
  split
  · split
    · rename_i hf; exact begins_takeRecordRead _ d (fetchAt_iff.mp hf).2
    · exact .plain
  all_goals exact .plain

theorem brings_retryTimerExpiry {s t : State} (h : execRetryTimerExpiry s = .next t) :
    brings .retryTimerExpiry s t := by
  refine brings_of_gated (by decide) h ⟨_, ?_, .refl⟩
  split
  · rename_i hf
    have hs : s.loader.state ≠ .complete := by rw [hf.2]; decide
    exact .fetch _ s.iu (by decide) (.inr rfl) hs hs
  · exact .plain

theorem brings_sample (d : Sample) {s t : State} (h : execSample d s = .next t) :
    brings (.sample d) s t :=
  brings_of_gated_moves h (by simp [blocksOf, acquisitionBlocks, roleBlocks])
    ((moves_settleSamples s).trans ((moves_attempt_acquisition _).trans (moves_takeSample d _)))

theorem brings_runEnd {s t : State} (h : execRunEnd s = .next t) :
    brings .runEnd s t := by
  refine brings_of_gated_moves h (by decide) ?_
  split
  · exact .quiet (by simp [calm_iff, blocksOf])
  · exact .refl

theorem brings_overlongRun {s t : State} (h : execOverlongRun s = .next t) :
    brings .overlongRun s t := by
  refine brings_of_gated_moves h (by decide) ?_
  split
  · exact .quiet (by simp [calm_iff, blocksOf])
  · exact .refl

theorem brings_predictionMiss {s t : State} (h : execPredictionMiss s = .next t) :
    brings .predictionMiss s t := by
  refine brings_of_gated_moves h (by decide) ?_
  split
  · exact .quiet (by simp [calm_iff, blocksOf])
  · exact .refl

theorem brings_gainMeasurement {s t : State} (h : execGainMeasurement s = .next t) :
    brings .gainMeasurement s t :=
  brings_of_gated_moves h (by decide) ((moves_measureIfDue s).trans (moves_attempt_acquisition _))

theorem brings_outputPeriodEnd {s t : State} (h : execOutputPeriodEnd s = .next t) :
    brings .outputPeriodEnd s t := by
  refine brings_of_gated_moves h (by decide) ?_
  unfold transferDuty
  split <;> exact .quiet (by simp [calm_iff, blocksOf])

theorem brings_trialEnd {s t : State} (h : execTrialEnd s = .next t) :
    brings .trialEnd s t :=
  brings_of_gated_moves h (by decide) (moves_endTrialIfDue s)

theorem brings_symbolBoundary (b : Bool) {s t : State} (h : execSymbolBoundary b s = .next t) :
    brings (.symbolBoundary b) s t :=
  brings_of_gated_moves h (by simp [blocksOf, acquisitionBlocks, roleBlocks])
    ((moves_boundaryEvent b s).trans (moves_attempt_acquisition _))

theorem brings_framePass {s t : State} (h : execFramePass s = .next t) :
    brings .framePass s t := by
  refine brings_of_gated_moves h (by decide) ?_
  split
  · exact moves_takePass ‹_›
  · exact .refl

theorem brings_holdLimit {s t : State} (h : execHoldLimit s = .next t) :
    brings .holdLimit s t := by
  refine brings_of_gated_moves h (by decide) ?_
  split
  · exact (moves_takeHoldLimit ‹_›).trans (moves_attempt_acquisition _)
  · exact .refl

theorem brings_merMeasurement (mer : Int) (b : Bool) {s t : State} (h : execMerMeasurement mer b s = .next t) :
    brings (.merMeasurement mer b) s t := by
  cases b with
  | false => exact brings_of_gated_moves h (by simp [blocksOf]) (moves_merEvent mer s)
  | true =>
    exact brings_of_gated_moves h (by simp [blocksOf, acquisitionBlocks, roleBlocks])
      ((moves_boundaryBefore true s).trans ((moves_merEvent mer _).mono (by decide)))

theorem brings_profileUpdate (peaks : List Peak) {s t : State} (h : execProfileUpdate peaks s = .next t) :
    brings (.profileUpdate peaks) s t := by
  refine brings_of_gated_moves h (by simp [blocksOf]) ?_
  unfold takeUpdate
  split
  · split
    · exact .refl
    · exact .quiet (by simp [calm_iff, blocksOf])
  · exact .refl

theorem brings_syncFound (b : Bool) {s t : State} (h : execSyncFound b s = .next t) :
    brings (.syncFound b) s t :=
  brings_of_gated_moves h (by simp [blocksOf, acquisitionBlocks, roleBlocks])
    ((moves_boundaryBefore b s).trans (moves_takeSyncFound _))

theorem brings_frameCheck (r : FrameReport) {s t : State} (h : execFrameCheck r s = .next t) :
    brings (.frameCheck r) s t :=
  brings_of_gated_moves h (by simp [blocksOf, acquisitionBlocks, roleBlocks])
    ((moves_takeFrameCheck r s).trans (moves_attempt_acquisition _))

theorem brings_packetDecoded (p : Packet) (r : PacketReport) {s t : State} (h : execPacketDecoded p r s = .next t) :
    brings (.packetDecoded p r) s t := by
  unfold execPacketDecoded at h
  split at h <;> cases h
  · exact brings_of_moves .refl
  · exact brings_of_moves ((moves_packetEvent p r s).trans (moves_attempt_packet _))

theorem brings_reportExpiry (b : Bool) {s t : State} (h : execReportExpiry b s = .next t) :
    brings (.reportExpiry b) s t := by
  refine brings_of_gated_moves h (by simp [blocksOf, roleBlocks]) ?_
  split
  · exact (moves_takeExpiry b s).trans ((moves_attempt _).mono (by simp [roleBlocks]))
  · exact .refl

theorem brings_admissionTick {s t : State} (h : execAdmissionTick s = .next t) :
    brings .admissionTick s t := by
  refine brings_of_gated_moves h (by decide) ?_
  split
  · rename_i hr
    exact (Move.credit (by simp [calm_iff, blocksOf]) hr.2 creditTick_inRange).moves
  · exact .refl

theorem brings_handoverTimerExpiry {s t : State} (h : execHandoverTimerExpiry s = .next t) :
    brings .handoverTimerExpiry s t := by
  refine brings_of_gated_moves h (by decide) ?_
  split
  · exact (moves_stopHandover s).trans ((moves_handoverDecision _).trans ((moves_attempt _).mono ri_roleBlocks))
  · exact .refl

theorem brings_suspensionHoldEnd (n : Nat) {s t : State} (h : execSuspensionHoldEnd n s = .next t) :
    brings (.suspensionHoldEnd n) s t :=
  brings_of_gated_moves h (by simp [blocksOf]) (.quiet (by simp [calm_iff, blocksOf]))

theorem brings_addressClashHoldEnd {s t : State} (h : execAddressClashHoldEnd s = .next t) :
    brings .addressClashHoldEnd s t := by
  refine brings_of_gated_moves h (by decide) ?_
  split
  · exact (Moves.quiet (by simp [calm_iff, blocksOf])).trans ((moves_attempt _).mono (by decide))
  · exact .refl

theorem brings_busIdle {s t : State} (h : execBusIdle s = .next t) :
    brings .busIdle s t := by
  refine brings_of_gated_moves h (by decide) ?_
  split
  · exact (Moves.quiet (by simp [calm_iff, blocksOf])).trans (moves_attempt _)
  · exact .refl

theorem brings_startBit {s t : State} (h : execStartBit s = .next t) :
    brings .startBit s t := by
  refine brings_of_gated_moves h (by decide) ?_
  unfold joinFrame
  split
  · split <;> exact .quiet (by simp [calm_iff, blocksOf])
  · exact .refl

theorem brings_arbitrationWon {s t : State} (h : execArbitrationWon s = .next t) :
    brings .arbitrationWon s t := by
  refine brings_of_gated_moves h (by decide) ?_
  unfold winArbitration
  split
  · exact moves_winFrame _ s
  all_goals exact .refl

theorem brings_arbitrationLost {s t : State} (h : execArbitrationLost s = .next t) :
    brings .arbitrationLost s t := by
  refine brings_of_gated_moves h (by decide) ?_
  unfold loseArbitration
  split
  · exact .quiet (by simp [calm_iff, blocksOf])
  all_goals exact .refl

theorem brings_readbackMismatch {s t : State} (h : execReadbackMismatch s = .next t) :
    brings .readbackMismatch s t := by
  refine brings_of_gated_moves h (by decide) ?_
  unfold mismatch
  split
  · exact moves_addressClash s
  all_goals exact .refl

theorem brings_frameSent {s t : State} (h : execFrameSent s = .next t) :
    brings .frameSent s t :=
  brings_of_gated (by decide) h (brings_completeFrame s)

theorem brings_statusReceived (f : StatusFrame) {s t : State} (h : execStatusReceived f s = .next t) :
    brings (.statusReceived f) s t :=
  brings_of_gated_moves h (by simp [blocksOf, roleBlocks])
    (moves_receive (List.Subset.refl _) _ _ (fun u => (moves_dispatchStatus f u).mono gau_roleBlocks) s)

theorem brings_takeReceived (f : TakeFrame) {s t : State} (h : execTakeReceived f s = .next t) :
    brings (.takeReceived f) s t :=
  brings_of_gated_moves h (by simp [blocksOf, roleBlocks])
    (moves_receive (List.Subset.refl _) _ _ (fun u => (moves_dispatchTake f u).mono gau_roleBlocks) s)

theorem brings_yieldReceived (f : YieldFrame) {s t : State} (h : execYieldReceived f s = .next t) :
    brings (.yieldReceived f) s t :=
  brings_of_gated_moves h (by simp [blocksOf, roleBlocks])
    (moves_receive (List.Subset.refl _) _ _ (fun u => (moves_dispatchYield f u).mono gau_roleBlocks) s)

theorem brings_payloadReceived (f : PayloadHeader) {s t : State} (h : execPayloadReceived f s = .next t) :
    brings (.payloadReceived f) s t :=
  brings_of_gated_moves h (by simp [blocksOf, roleBlocks])
    (moves_receive (bs := .gau :: .services :: roleBlocks) (by decide) _ _
      (fun u => (moves_dispatchPayload f u).mono (List.subset_cons_self _ _)) s)

theorem brings_receiveError (b : List Byte) {s t : State} (h : execReceiveError b s = .next t) :
    brings (.receiveError b) s t :=
  brings_of_gated_moves h (by simp [blocksOf]) (moves_errorEvent b s)

theorem brings_silenceAssert {s t : State} (h : execSilenceAssert s = .next t) :
    brings .silenceAssert s t := by
  unfold execSilenceAssert at h
  split at h
  · cases h
    exact ⟨_, _, .silence true (.inl rfl), .refl, .inl rfl⟩
  · refine brings_of_gated (by decide) h ?_
    unfold assertSilence
    split
    · exact ⟨s, .plain, .refl⟩
    · exact ⟨_, .silence true (.inl rfl), moves_silenceStation _⟩

theorem brings_silenceRelease {s t : State} (h : execSilenceRelease s = .next t) :
    brings .silenceRelease s t := by
  unfold execSilenceRelease at h
  split at h
  · cases h
    exact ⟨_, _, .silence false (.inr rfl), .refl, .inl rfl⟩
  · refine brings_of_gated (by decide) h ?_
    unfold releaseSilence
    split
    · exact ⟨_, .silence false (.inr rfl), moves_attempt _⟩
    · exact ⟨s, .plain, .refl⟩

theorem brings_handoverFlashEnd {s t : State} (h : execHandoverFlashEnd s = .next t) :
    brings .handoverFlashEnd s t :=
  brings_of_gated_moves h (by decide) (.quiet (by simp [calm_iff, blocksOf]))

theorem brings_ownAddressFrame (b : List Byte) {s t : State} (h : execOwnAddressFrame b s = .next t) :
    brings (.ownAddressFrame b) s t :=
  brings_of_gated_moves h (by simp [blocksOf, roleBlocks]) (moves_ownAddressEvent b s)

/-- What a command other than RESET can do, for every row of the table. -/
theorem exec_brings {c : Instr} {s t : State} (hc : c ≠ .reset) (h : exec c s = .next t) : brings c s t := by
  cases c with
  | reset => exact absurd rfl hc
  | resetEnd straps => exact brings_resetEnd straps h
  | resetEnableCommand => exact brings_resetEnableCommand h
  | resetCommand => exact brings_resetCommand h
  | recoveryWaitEnd => exact brings_recoveryWaitEnd h
  | headerRead d => exact brings_headerRead d h
  | recordRead d => exact brings_recordRead d h
  | retryTimerExpiry => exact brings_retryTimerExpiry h
  | sample d => exact brings_sample d h
  | runEnd => exact brings_runEnd h
  | overlongRun => exact brings_overlongRun h
  | predictionMiss => exact brings_predictionMiss h
  | gainMeasurement => exact brings_gainMeasurement h
  | outputPeriodEnd => exact brings_outputPeriodEnd h
  | trialEnd => exact brings_trialEnd h
  | symbolBoundary b => exact brings_symbolBoundary b h
  | framePass => exact brings_framePass h
  | holdLimit => exact brings_holdLimit h
  | merMeasurement mer b => exact brings_merMeasurement mer b h
  | profileUpdate peaks => exact brings_profileUpdate peaks h
  | syncFound b => exact brings_syncFound b h
  | frameCheck r => exact brings_frameCheck r h
  | packetDecoded p r => exact brings_packetDecoded p r h
  | reportExpiry b => exact brings_reportExpiry b h
  | admissionTick => exact brings_admissionTick h
  | handoverTimerExpiry => exact brings_handoverTimerExpiry h
  | suspensionHoldEnd n => exact brings_suspensionHoldEnd n h
  | addressClashHoldEnd => exact brings_addressClashHoldEnd h
  | busIdle => exact brings_busIdle h
  | startBit => exact brings_startBit h
  | arbitrationWon => exact brings_arbitrationWon h
  | arbitrationLost => exact brings_arbitrationLost h
  | readbackMismatch => exact brings_readbackMismatch h
  | frameSent => exact brings_frameSent h
  | statusReceived f => exact brings_statusReceived f h
  | takeReceived f => exact brings_takeReceived f h
  | yieldReceived f => exact brings_yieldReceived f h
  | payloadReceived f => exact brings_payloadReceived f h
  | receiveError b => exact brings_receiveError b h
  | silenceAssert => exact brings_silenceAssert h
  | silenceRelease => exact brings_silenceRelease h
  | handoverFlashEnd => exact brings_handoverFlashEnd h
  | ownAddressFrame b => exact brings_ownAddressFrame b h

/-! ## Rules over every step -/

theorem exec_reset_next {s t : State} (h : exec .reset s = .next t) : t = heldAtReset s := by
  cases h; rfl

/-- A step runs the command at the front of the queue, or idles on an empty one (assumption log 1). -/
theorem step_next {s t : State} (h : step s = .next t) :
    t = s ∨ ∃ c rest, exec c { s with pending := rest } = .next t := by
  unfold step at h
  split at h
  · cases h; exact .inl rfl
  · exact .inr ⟨_, _, h⟩

/-- A predicate is kept by every step when it is set at reset, not read from the queue, and kept by every beginning of a command
and by every elementary move. -/
theorem step_keeps {p : State → Prop} (hreset : ∀ s, p (heldAtReset s))
    (hqueue : ∀ s q, p s → p { s with pending := q }) (hbegins : ∀ c s u, Begins c s u → p s → p u)
    (hmove : ∀ bs s t, Move bs s t → p s → p t) {s t : State} (h : step s = .next t) (hs : p s) : p t := by
  rcases step_next h with rfl | ⟨c, rest, hc⟩
  · exact hs
  · have hq := hqueue s rest hs
    by_cases hr : c = .reset
    · subst hr
      rw [exec_reset_next hc]
      exact hreset _
    · obtain ⟨u, v, hu, hm, ht⟩ := exec_brings hr hc
      have hv := hm.keeps (hmove _) (hbegins _ _ _ hu hq)
      rcases ht with rfl | ⟨-, rfl⟩
      · exact hv
      · exact (moves_takeWaiting v).keeps (hmove _) hv

/-! ### Credit and merit (R73, R167) -/

/-- Configuration complete leaves a station that was at rest with no credit (R167, R187). -/
theorem completeFetch_sound {s : State} (h : atRest s) (hc : s.sau.credit = 0) :
    startupSound (completeFetch s) ∧ creditSound (completeFetch s) := by
  have he : completeFetch s = _ := enterGain_atRest (s := released s.loader.kept s) h
  rw [he]
  refine ⟨fun hl => absurd ?_ hl, creditSound_of_zero ?_⟩ <;> simp [released, hc]

theorem Begins.sound {c : Instr} {s u : State} (h : Begins c s u) (hs : startupSound s ∧ creditSound s) :
    startupSound u ∧ creditSound u := by
  obtain ⟨hstart, hcredit⟩ := hs
  cases h with
  | plain | silence | leave | report => exact ⟨hstart, hcredit⟩
  | fetch l i _ _ hl _ => exact ⟨fun _ => hstart hl, hcredit⟩
  | complete l _ hl =>
    have hrest : atRest s := hstart hl
    have hzero : s.sau.credit = 0 := hcredit.2.2 (by rw [hrest.2]; decide)
    exact completeFetch_sound (s := { s with loader := l }) hrest hzero

theorem enterGain_merit {s : State} (h : meritSound s) : meritSound (enterGain s) := by
  unfold enterGain
  simp only [meritSound, changeAcq_gau, changeAcq_pru]
  by_cases ht : s.gau.acq = .track
  · simp [ht, leaveTrack]
  · simp [ht, h.2 ht]

theorem Begins.meritSound {c : Instr} {s u : State} (h : Begins c s u) (hs : meritSound s) : meritSound u := by
  cases h with
  | plain | silence | leave | fetch | report => exact hs
  | complete l => exact enterGain_merit (s := released _ { s with loader := l }) hs

/-- Settles O53, by the elementary moves. -/
theorem stepKeepsCreditAndMerit : Obligations.StepKeepsCreditAndMerit := by
  constructor
  · intro s t hstart hcredit h
    refine step_keeps (p := fun s => startupSound s ∧ creditSound s) (fun s => ?_) (fun _ _ h => h)
      (fun _ _ _ h => h.sound) (fun _ _ _ h hs => ⟨h.startupSound hs.1, h.creditSound hs.2⟩) h ⟨hstart, hcredit⟩
    exact ⟨fun _ => ⟨rfl, rfl⟩, creditSound_of_zero rfl⟩
  · intro s t hmerit h
    exact step_keeps (p := meritSound) (fun s => ⟨by simp [heldAtReset, State.reset, Pru.reset], fun _ => rfl⟩)
      (fun _ _ h => h) (fun _ _ _ h => h.meritSound) (fun _ _ _ h => h.meritSound) h hmerit

/-! ### Recovery causes (R17, R18) -/

theorem causePresent_without (k : Cause) (a b : CauseSet) :
    causePresent k (causesWithout a b) = (causePresent k a && !causePresent k b) := by
  cases k <;> rfl

/-- A cause that the beginning of a command takes out of the set is one that a completed STATUS carried (R18). -/
theorem Begins.causes {c : Instr} {s u : State} (h : Begins c s u) {k : Cause}
    (hk : causePresent k s.gau.causes = true) : causePresent k u.gau.causes = true
      ∨ (c = .frameSent ∧ causePresent k s.gau.carried = true ∧ ∃ f, s.ri.tx = .transmitting (.status f)) := by
  cases h with
  | plain | silence | leave | fetch => exact .inl hk
  | complete l => exact .inl (by rw [completeFetch_gau]; exact hk)
  | report f hc ht =>
    have hu : causePresent k (settleReports (settleCauses (stopDriving s))).gau.causes
        = (causePresent k s.gau.causes && !causePresent k s.gau.carried) := causePresent_without k _ _
    cases hm : causePresent k s.gau.carried with
    | true => exact .inr ⟨hc, rfl, f, ht⟩
    | false => exact .inl (by rw [hu, hk, hm]; rfl)

/-- Settles O58: no elementary move takes a cause out of the set. -/
theorem causesLeaveOnlyWhenReported : Obligations.CausesLeaveOnlyWhenReported := by
  intro k c s t h hk hgone
  by_cases hr : c = .reset
  · exact .inl hr
  · obtain ⟨u, v, hu, hm, ht⟩ := exec_brings hr h
    rcases hu.causes hk with hk' | hreported
    · have moved {bs : List Block} {a b : State} (h : Moves bs a b) : causePresent k a.gau.causes = true →
          causePresent k b.gau.causes = true := h.keeps fun _ _ h => h.causes
      have hv := moved hm hk'
      have hkt : causePresent k t.gau.causes = true := by
        rcases ht with rfl | ⟨-, rfl⟩
        · exact hv
        · exact moved (moves_takeWaiting v) hv
      rw [hkt] at hgone
      cases hgone
    · exact .inr hreported

/-! ### Blocks a command reaches -/

theorem completeFetch_blocks {s : State} (h : atRest s) :
    changesOnly [.loader, .cfg, .services, .ou, .sau, .gau, .ib, .iu] s (completeFetch s) := by
  have he : completeFetch s = _ := enterGain_atRest (s := released s.loader.kept s) h
  rw [he]
  refine ⟨by simp [released], by simp [released], by simp [released], fun b hb => ?_⟩
  cases b
  case wu | pru | waiting | ri | hbu => simp [sameBlock, released]
  all_goals exact absurd (by decide) hb

/-- A command begins within its own blocks; it changes no level but SILENCE's at the SILENCE commands and RESET's at the end of
reset. -/
theorem Begins.blocks {c : Instr} {s u : State} (h : Begins c s u) (hs : startupSound s) :
    u.pending = s.pending ∧ (∀ b, b ∉ blocksOf c → sameBlock s u b)
      ∧ (c ≠ .silenceAssert → c ≠ .silenceRelease → u.silence = s.silence)
      ∧ ((∀ straps, c ≠ .resetEnd straps) → u.resetLow = s.resetLow) := by
  have refl : ∀ b, sameBlock s s b := fun b => by cases b <;> rfl
  have ofOnly {v : State} (h : changesOnly (blocksOf c) s v) : v.pending = s.pending
      ∧ (∀ b, b ∉ blocksOf c → sameBlock s v b) ∧ (c ≠ .silenceAssert → c ≠ .silenceRelease → v.silence = s.silence)
      ∧ ((∀ straps, c ≠ .resetEnd straps) → v.resetLow = s.resetLow) := by
    obtain ⟨hp, hsil, hr, hb⟩ := h
    exact ⟨hp, hb, fun _ _ => hsil, fun _ => hr⟩
  cases h with
  | plain => exact ofOnly (changesOnly_refl _ s)
  | silence b hc =>
    refine ⟨rfl, fun b _ => by cases b <;> rfl, fun ha hr => ?_, fun _ => rfl⟩
    rcases hc with hc | hc
    · exact absurd hc ha
    · exact absurd hc hr
  | leave straps hc =>
    subst hc
    refine ⟨rfl, fun b hb => ?_, fun _ _ => rfl, fun hn => absurd rfl (hn straps)⟩
    cases b
    case loader => exact absurd (by simp [blocksOf]) hb
    all_goals rfl
  | fetch l i hl hi =>
    refine ofOnly ⟨rfl, rfl, rfl, fun b hb => ?_⟩
    cases b
    case loader => exact absurd hl hb
    case iu => exact hi.resolve_left hb
    all_goals rfl
  | complete l hc hn =>
    have only := completeFetch_blocks (s := { s with loader := l }) (hs hn)
    have load : changesOnly [.loader, .cfg, .services, .ou, .sau, .gau, .ib, .iu] s { s with loader := l } :=
      changesOnly_mono (bs := [.loader]) (by decide) ⟨rfl, rfl, rfl, fun b hb => by
        cases b
        case loader => exact absurd (by decide) hb
        all_goals rfl⟩
    have all := changesOnly_trans load only
    rcases hc with ⟨d, rfl⟩ | ⟨d, rfl⟩ <;> exact ofOnly all
  | report f hc =>
    subst hc
    refine ofOnly ⟨rfl, rfl, rfl, fun b hb => ?_⟩
    cases b
    case gau | ri => exact absurd (by decide) hb
    all_goals rfl

/-- Settles O60: a command begins within its blocks, moves within them, and finds nothing waiting. -/
theorem commandsLeaveOtherBlocks : Obligations.CommandsLeaveOtherBlocks := by
  intro c s t hs hw hc h
  obtain ⟨u, v, hu, hm, ht⟩ := exec_brings hc h
  obtain ⟨hp, hb, hsil, hlow⟩ := hu.blocks hs
  obtain ⟨hp', hsil', hlow', hb'⟩ := hm.changesOnly
  have hblocks : ∀ b, b ∉ blocksOf c → sameBlock s v b := fun b h => sameBlock_trans (hb b h) (hb' b h)
  have htv : t = v := by
    rcases ht with ht | ⟨hn, ht⟩
    · exact ht
    · have hwv : v.waiting = s.waiting := hblocks .waiting hn
      rw [ht, takeWaiting_nothing (hwv.trans hw)]
  subst htv
  exact ⟨hp'.trans hp, hblocks, fun ha hr => hsil'.trans (hsil ha hr), fun hr => hlow'.trans (hlow hr)⟩

end Sys2Proof.Machine

/-! # Proofs: the state at reset -/

namespace Sys2Proof.Machine

/-- Settles O3: each value stands in the definitions of the reset state. -/
theorem resetValuesAsSpecified : Obligations.ResetValuesAsSpecified := by
  unfold Obligations.ResetValuesAsSpecified
  and_intros <;> rfl

/-- Settles O51: the stores, queues, lists and the line are empty, the credit and the merit 0, and nothing lights the lamp. -/
theorem resetStateIsSound : Obligations.ResetStateIsSound := by
  refine ⟨?queues, ?stores, fun _ => ⟨rfl, rfl⟩, creditSound_of_zero rfl, ⟨Nat.zero_le _, fun _ => rfl⟩, ?paths, ?peers, ?line,
    ?window, rfl⟩
  case queues => exact ⟨Nat.zero_le _, Nat.zero_le _, Nat.zero_le _⟩
  case stores => exact ⟨Nat.zero_le _, Nat.zero_le _, .inl rfl, fun _ => rfl⟩
  case paths => exact ⟨Nat.zero_le _, .nil, fun e he => nomatch he⟩
  case peers => exact ⟨.nil, fun p hp => (nomatch hp), fun _ => rfl⟩
  case line => exact ⟨fun _ => rfl, fun h => absurd rfl h, nofun⟩
  case window => exact ⟨fun _ => rfl, nofun⟩

end Sys2Proof.Machine

/-! # Proofs: gain, acquisition, symbol timing and the frames sent -/

namespace Sys2Proof.Machine

/-! ## Running a gated command -/

/-- A gated command of a running station answers its own effect, when that is a run of moves that leaves nothing on its way. -/
theorem whenRunning_moves {bs : List Block} {f : State → State} {s : State} (h : running s) (hw : .waiting ∉ bs)
    (hf : Moves bs s (f s)) : whenRunning f s = .next (f s) :=
  whenRunning_running h (hf.changesOnly.same hw)

theorem waiting_notMem_acquisition : Block.waiting ∉ acquisitionBlocks := by decide

/-- As `whenRunning_moves`, for an effect within the blocks a change of the acquisition state reaches. -/
theorem whenRunning_acquisition {f : State → State} {s : State} (h : running s) (hf : Moves acquisitionBlocks s (f s)) :
    whenRunning f s = .next (f s) :=
  whenRunning_moves h waiting_notMem_acquisition hf

/-! ## Entries into the acquisition states, block by block (R7, R9, R11 to R16) -/

theorem enterGain_gau (s : State) :
    (enterGain s).gau = { s.gau with acq := .gain, measurementCount := 0, settleRun := 0, trialSamples := #[] } := by
  rw [enterGain, changeAcq_gau]

theorem enterGain_ib (s : State) : (enterGain s).ib = restartBlanker s.ib := by simp [enterGain]

theorem enterSymbol_gau (s : State) : (enterSymbol s).gau = { s.gau with
    acq := .symbol, failedTrials := 0, held := none, current := none, trialSamples := #[] } := by
  rw [enterSymbol, changeAcq_gau]

theorem enterSymbol_ib (s : State) : (enterSymbol s).ib = dropSymbolCounts s.ib := by simp [enterSymbol]

theorem enterSymbol_wu (s : State) : (enterSymbol s).wu = dropGrid s.wu := by simp [enterSymbol]

theorem enterSymbol_errorRun (s : State) : (enterSymbol s).pru.errorRun = 0 := by
  rw [enterSymbol, changeAcq_pru]; split <;> rfl

theorem enterFrameSearch_gau (t : TrialScore) (s : State) : (enterFrameSearch t s).gau = { s.gau with
    acq := .frame, held := some t.candidate, trialSamples := #[], subState := .search, passCount := 0, searchCount := 0,
    candidate := none } := by
  rw [enterFrameSearch, changeAcq_gau]

theorem enterFrameSearch_ib (t : TrialScore) (s : State) : (enterFrameSearch t s).ib = startSymbolCounts s.ib := by
  simp [enterFrameSearch]

theorem enterFrameSearch_wu (t : TrialScore) (s : State) : (enterFrameSearch t s).wu = setGrid t s.wu := by
  simp [enterFrameSearch]

theorem enterFrameConfirm_gau (g : Signalling) (s : State) : (enterFrameConfirm g s).gau = { s.gau with
    acq := .frame, subState := .confirm, candidate := some g, passCount := 0 } := by
  rw [enterFrameConfirm, changeAcq_gau]

theorem enterFrameConfirm_pru (g : Signalling) (s : State) :
    (enterFrameConfirm g s).pru = if s.gau.acq = .track then leaveTrack s.pru else s.pru := by
  rw [enterFrameConfirm, changeAcq_pru]; simp

theorem enterTrack_gau (g : Option Signalling) (s : State) : (enterTrack g s).gau = { s.gau with
    acq := .track, current := g, syncMissRun := 0, clipRun := 0 } := by
  rw [enterTrack, changeAcq_gau]

theorem enterTrack_pru (g : Option Signalling) (s : State) :
    (enterTrack g s).pru = { s.pru with tallies := .zero, signalling := g } := by
  rw [enterTrack, changeAcq_pru]; simp

theorem enterHold_gau (s : State) : (enterHold s).gau = { s.gau with acq := .hold, holdCount := 0 } := by
  rw [enterHold, changeAcq_gau]

theorem enterHold_pru (s : State) : (enterHold s).pru = if s.gau.acq = .track then leaveTrack s.pru else s.pru := by
  rw [enterHold, changeAcq_pru]; simp

/-- A report taken in TRACK records its cause and enters HOLD (R15). -/
theorem reportCause_track {s : State} (c : Cause) (h : s.gau.acq = .track) :
    reportCause c s = enterHold (recordCause c s) := by
  simp [reportCause, h]

/-- A report taken outside TRACK is recorded alone (R15). -/
theorem reportCause_other {s : State} (c : Cause) (h : s.gau.acq ≠ .track) : reportCause c s = recordCause c s := by
  simp [reportCause, h]


theorem recordCause_gau (c : Cause) (s : State) : (recordCause c s).gau = { s.gau with
    causes := setCause c true s.gau.causes, carried := setCause c false s.gau.carried } := rfl

theorem reportCause_gau (c : Cause) (s : State) : (reportCause c s).gau =
    if s.gau.acq = .track then { (recordCause c s).gau with acq := .hold, holdCount := 0 } else (recordCause c s).gau := by
  by_cases h : s.gau.acq = .track
  · rw [reportCause_track c h, enterHold_gau, if_pos h]
  · rw [reportCause_other c h, if_neg h]

/-! ## Gain measurements (R2, R3, R5, R7) -/

theorem exec_gainMeasurement {s : State} (h : running s) (ha : s.gau.acq ≠ .idle) (hc : s.gau.blockCount = 1024) :
    exec .gainMeasurement s = .next (attempt (takeMeasurement s)) := by
  have hdue : measureIfDue s = takeMeasurement s := by simp [measureIfDue, measurementDue, ha, hc]
  rw [← hdue]
  exact whenRunning_acquisition (f := fun s => attempt (measureIfDue s)) h
    ((moves_measureIfDue s).trans (moves_attempt_acquisition _))

/-- The duties, the level, the block in progress and the clip run are the same. -/
def sameMeasure (g g' : Gau) : Prop :=
  g'.appliedDuty = g.appliedDuty ∧ g'.pendingDuty = g.pendingDuty ∧ g'.transferPending = g.transferPending
    ∧ g'.rms = g.rms ∧ g'.blockCount = g.blockCount ∧ g'.blockBlanked = g.blockBlanked ∧ g'.blockEnergy = g.blockEnergy

theorem gainMeasured_measure (e : Option Int) (s : State) :
    sameMeasure s.gau (gainMeasured e s).gau ∧ (gainMeasured e s).gau.clipRun = s.gau.clipRun
      ∧ (s.ib.suspended = false → (gainMeasured e s).ib.suspended = false) := by
  rw [gainMeasured_eq]
  split
  · rw [enterSymbol_gau, enterSymbol_ib]
    exact ⟨⟨rfl, rfl, rfl, rfl, rfl, rfl, rfl⟩, rfl, id⟩
  · split
    · rw [enterGain_gau, enterGain_ib]
      exact ⟨⟨rfl, rfl, rfl, rfl, rfl, rfl, rfl⟩, rfl, fun _ => rfl⟩
    · exact ⟨⟨rfl, rfl, rfl, rfl, rfl, rfl, rfl⟩, rfl, id⟩

theorem reportCause_measure (c : Cause) (s : State) : sameMeasure s.gau (reportCause c s).gau := by
  rw [reportCause_gau]
  split <;> exact ⟨rfl, rfl, rfl, rfl, rfl, rfl, rfl⟩

/-- At its 64th measurement the clip run is reported (R5). -/
theorem clipMeasured_report {step : Int} {s : State} (hp : pushesPastEnd s.gau.appliedDuty step = true)
    (hr : 64 ≤ s.gau.clipRun + 1) :
    clipMeasured step s = reportCause .gainClipped { s with gau := { s.gau with clipRun := 0 } } := by
  rw [clipMeasured, if_pos hp, if_pos hr]

theorem clipMeasured_raise {step : Int} {s : State} (hp : pushesPastEnd s.gau.appliedDuty step = true)
    (hr : ¬64 ≤ s.gau.clipRun + 1) :
    clipMeasured step s = { s with gau := { s.gau with clipRun := s.gau.clipRun + 1 } } := by
  rw [clipMeasured, if_pos hp, if_neg hr]

theorem clipMeasured_clear {step : Int} {s : State} (hp : ¬pushesPastEnd s.gau.appliedDuty step = true) :
    clipMeasured step s = { s with gau := { s.gau with clipRun := 0 } } := by
  rw [clipMeasured, if_neg hp]

theorem clipMeasured_measure (step : Int) (s : State) :
    sameMeasure s.gau (clipMeasured step s).gau ∧ (clipMeasured step s).ib = s.ib := by
  by_cases hp : pushesPastEnd s.gau.appliedDuty step = true
  · by_cases hr : 64 ≤ s.gau.clipRun + 1
    · rw [clipMeasured_report hp hr]
      exact ⟨reportCause_measure .gainClipped { s with gau := { s.gau with clipRun := 0 } }, by simp⟩
    · rw [clipMeasured_raise hp hr]
      exact ⟨⟨rfl, rfl, rfl, rfl, rfl, rfl, rfl⟩, rfl⟩
  · rw [clipMeasured_clear hp]
    exact ⟨⟨rfl, rfl, rfl, rfl, rfl, rfl, rfl⟩, rfl⟩

/-- What a measurement that is not void leaves, whatever it brings about besides (R2, R3, R47). -/
theorem takeMeasurement_full_measure {s : State} (h : blockVoid s.gau = false) :
    sameMeasure (fullyMeasured s).gau (takeMeasurement s).gau ∧ (takeMeasurement s).ib.suspended = false := by
  have hsus : (fullyMeasured s).ib.suspended = false := rfl
  rw [takeMeasurement_full h]
  split
  · obtain ⟨hm, -, hs⟩ := gainMeasured_measure (some (blockError s.gau)) (fullyMeasured s)
    exact ⟨hm, hs hsus⟩
  · split
    · obtain ⟨hm, hib⟩ := clipMeasured_measure (gainStep (blockError s.gau)) (fullyMeasured s)
      exact ⟨hm, by rw [hib]; exact hsus⟩
    · exact ⟨⟨rfl, rfl, rfl, rfl, rfl, rfl, rfl⟩, hsus⟩

/-- What a void measurement leaves (R2). -/
theorem takeMeasurement_void_measure {s : State} (h : blockVoid s.gau = true) :
    sameMeasure (voidMeasured s).gau (takeMeasurement s).gau ∧ (takeMeasurement s).gau.clipRun = s.gau.clipRun := by
  rw [takeMeasurement_void h]
  split
  · obtain ⟨hm, hc, -⟩ := gainMeasured_measure none (voidMeasured s)
    exact ⟨hm, hc⟩
  · exact ⟨⟨rfl, rfl, rfl, rfl, rfl, rfl, rfl⟩, rfl⟩

theorem blockVoid_eq_false {g : Gau} : blockVoid g = false ↔ g.blockBlanked ≤ 512 := by
  simp [blockVoid]

theorem blockVoid_eq_true {g : Gau} : blockVoid g = true ↔ 512 < g.blockBlanked := by
  simp [blockVoid]

theorem pendingDutyFor_eq (applied : Nat) (step : Int) :
    (pendingDutyFor applied step : Int) = max 0 (min 1023 ((applied : Int) - step)) := by
  rw [pendingDutyFor, clampInt_eq _ (by decide)]
  omega

theorem gainStep_eq (e : Int) : gainStep e = max (-32) (min 32 (e.tdiv 4)) := clampInt_eq _ (by decide)

/-- Settles O11: whatever else a measurement brings about, it leaves the duties it has set. -/
theorem measurementSetsPendingDuty : Obligations.MeasurementSetsPendingDuty := by
  refine ⟨fun s hr ha hc hb => ⟨_, exec_gainMeasurement hr ha hc, ?_⟩, by decide, by decide, rfl, rfl, rfl⟩
  obtain ⟨⟨happlied, hpending, htransfer, -⟩, -⟩ := takeMeasurement_full_measure (blockVoid_eq_false.mpr hb)
  obtain ⟨duty, hduty, hfull⟩ := fullyMeasured_eq s
  rw [hfull] at happlied hpending htransfer
  simp only [attempt_frame]
  refine ⟨happlied, htransfer, ?_⟩
  rw [hpending, ← gainStep_eq, hduty]
  exact pendingDutyFor_eq _ _


/-- The measurement is not void and lies within ±10 of the target level (R7). -/
def settles (g : Gau) : Prop := g.blockBlanked ≤ 512 ∧ (blockError g).natAbs ≤ 10

/-- A measurement in GAIN is counted from a state that differs from the one before it in the measurement alone (R7). -/
theorem takeMeasurement_gain {s : State} (h : s.gau.acq = .gain) : ∃ e u, takeMeasurement s = gainMeasured e u
    ∧ (settles s.gau → settleRunAfter e u.gau.settleRun = s.gau.settleRun + 1)
    ∧ (¬settles s.gau → settleRunAfter e u.gau.settleRun = 0)
    ∧ u.gau.acq = .gain ∧ u.gau.measurementCount = s.gau.measurementCount
    ∧ u.gau.noSignalRestarts = s.gau.noSignalRestarts ∧ u.gau.appliedDuty = s.gau.appliedDuty
    ∧ u.ib.history = s.ib.history := by
  cases hv : blockVoid s.gau with
  | true =>
    refine ⟨none, voidMeasured s, by rw [takeMeasurement_void hv, if_pos h], fun hs => ?_, fun _ => rfl, h, rfl, rfl, rfl, rfl⟩
    exact absurd (blockVoid_eq_true.mp hv) (Nat.not_lt.mpr hs.1)
  | false =>
    have hb := blockVoid_eq_false.mp hv
    obtain ⟨duty, -, hfull⟩ := fullyMeasured_eq s
    have hgain : takeMeasurement s = gainMeasured (some (blockError s.gau)) (fullyMeasured s) := by
      rw [takeMeasurement_full hv, if_pos h]
    rw [hfull] at hgain
    exact ⟨_, _, hgain, fun hs => if_pos hs.2, fun hs => if_neg fun hn => hs ⟨hb, hn⟩, h, rfl, rfl, rfl, rfl⟩

/-- A measurement in TRACK that is not void moves the clip run of a state that differs in the measurement alone (R5). -/
theorem takeMeasurement_track {s : State} (h : s.gau.acq = .track) (hb : s.gau.blockBlanked ≤ 512) :
    ∃ u, takeMeasurement s = clipMeasured (gainStep (blockError s.gau)) u ∧ u.gau.acq = .track
      ∧ u.gau.appliedDuty = s.gau.appliedDuty ∧ u.gau.clipRun = s.gau.clipRun ∧ u.gau.causes = s.gau.causes := by
  obtain ⟨duty, -, hfull⟩ := fullyMeasured_eq s
  have htrack : takeMeasurement s = clipMeasured (gainStep (blockError s.gau)) (fullyMeasured s) := by
    rw [takeMeasurement_full (blockVoid_eq_false.mpr hb), if_neg (by rw [h]; decide), if_pos h]
  rw [hfull] at htrack
  exact ⟨_, htrack, h, rfl, rfl, rfl⟩

/-- Enough settled measurements have come, the 200th of a block included: SYMBOL (R7). -/
theorem gainMeasured_settled {e : Option Int} {s : State} (h : 8 ≤ settleRunAfter e s.gau.settleRun) :
    gainMeasured e s = enterSymbol
      { countMeasurement e s with gau := { (countMeasurement e s).gau with noSignalRestarts := 0 } } := by
  rw [gainMeasured_eq, if_pos h]

theorem gainMeasured_restart {e : Option Int} {s : State} (h : ¬8 ≤ settleRunAfter e s.gau.settleRun)
    (hc : 200 ≤ s.gau.measurementCount + 1) : gainMeasured e s = enterGain { countMeasurement e s with
      gau := { (countMeasurement e s).gau with noSignalRestarts := satAdd 255 s.gau.noSignalRestarts 1 } } := by
  rw [gainMeasured_eq, if_neg h, if_pos hc]

theorem gainMeasured_counted {e : Option Int} {s : State} (h : ¬8 ≤ settleRunAfter e s.gau.settleRun)
    (hc : ¬200 ≤ s.gau.measurementCount + 1) : gainMeasured e s = countMeasurement e s := by
  rw [gainMeasured_eq, if_neg h, if_neg hc]

/-- R2, R47: what every measurement leaves, void or not. -/
theorem measurement_handsOn {s : State} (hr : running s) (ha : s.gau.acq ≠ .idle) (hc : s.gau.blockCount = 1024) :
    ∃ t, exec .gainMeasurement s = .next t ∧ t.gau.blockCount = 0 ∧ t.gau.blockBlanked = 0 ∧ t.gau.blockEnergy = 0
      ∧ (s.gau.blockBlanked ≤ 512 →
        t.gau.rms = .measured s.gau.blockEnergy (1024 - s.gau.blockBlanked) ∧ t.ib.suspended = false)
      ∧ (512 < s.gau.blockBlanked → t.gau.rms = s.gau.rms ∧ t.gau.pendingDuty = s.gau.pendingDuty
        ∧ t.gau.transferPending = s.gau.transferPending ∧ t.gau.clipRun = s.gau.clipRun
        ∧ (s.gau.acq ≠ .gain ∨ s.gau.measurementCount < 199 → s.gau.settleRun ≤ 7 → t.gau.acq = s.gau.acq
          ∧ t.ib = s.ib)) := by
  refine ⟨_, exec_gainMeasurement hr ha hc, ?_⟩
  simp only [attempt_frame]
  cases hv : blockVoid s.gau with
  | true =>
    have hb := blockVoid_eq_true.mp hv
    obtain ⟨⟨-, hpending, htransfer, hrms, hcount, hblanked, henergy⟩, hclip⟩ := takeMeasurement_void_measure hv
    refine ⟨hcount, hblanked, henergy, fun hn => absurd hb (Nat.not_lt.mpr hn),
      fun _ => ⟨hrms, hpending, htransfer, hclip, fun hstay _ => ?_⟩⟩
    rw [takeMeasurement_void hv]
    split
    · rename_i hg
      have hm : s.gau.measurementCount < 199 := hstay.resolve_left fun hn => hn hg
      have run : settleRunAfter none (voidMeasured s).gau.settleRun = 0 := rfl
      have count : (voidMeasured s).gau.measurementCount = s.gau.measurementCount := rfl
      rw [gainMeasured_counted (by omega) (by omega)]
      exact ⟨rfl, rfl⟩
    · exact ⟨rfl, rfl⟩
  | false =>
    have hb := blockVoid_eq_false.mp hv
    obtain ⟨⟨-, -, -, hrms, hcount, hblanked, henergy⟩, hsuspended⟩ := takeMeasurement_full_measure hv
    obtain ⟨duty, -, hfull⟩ := fullyMeasured_eq s
    rw [hfull] at hrms hcount hblanked henergy
    exact ⟨hcount, hblanked, henergy, fun _ => ⟨hrms, hsuspended⟩, fun hn => absurd hb (Nat.not_le.mpr hn)⟩

/-- Settles O13: the counts of GAIN and the clip run of TRACK decide what a measurement brings about. -/
theorem gainMeasurementMovesAcquisition : Obligations.GainMeasurementMovesAcquisition := by
  refine ⟨fun s => measurement_handsOn, fun s hr ha hc hrun hcount => ?gain, fun s hr ha hc hb => ?track⟩
  case gain =>
    have hexec := exec_gainMeasurement hr (by rw [ha]; decide) hc
    obtain ⟨e, u, hu, hsettles, hfails, hacq, hmeasured, hrestarts, happlied, hhistory⟩ := takeMeasurement_gain ha
    rw [hu] at hexec
    have low (h : ¬(settles s.gau ∧ s.gau.settleRun = 7)) : ¬8 ≤ settleRunAfter e u.gau.settleRun := by
      by_cases hs : settles s.gau
      · have := hsettles hs
        have : s.gau.settleRun ≠ 7 := fun h7 => h ⟨hs, h7⟩
        omega
      · rw [hfails hs]; decide
    refine ⟨fun hs h7 => ⟨_, hexec, ?_⟩, fun hn hm => ⟨_, hexec, ?_⟩, fun hn hm => ⟨_, hexec, ?_⟩⟩
    · have := hsettles hs
      simp only [attempt_frame]
      rw [gainMeasured_settled (by omega), enterSymbol_gau, enterSymbol_wu]
      exact ⟨rfl, rfl, rfl, rfl, rfl, rfl, rfl⟩
    · simp only [attempt_frame]
      rw [gainMeasured_counted (low hn) (by omega)]
      exact ⟨hacq, congrArg (· + 1) hmeasured, hsettles, hfails, hrestarts, hhistory⟩
    · simp only [attempt_frame]
      rw [gainMeasured_restart (low hn) (by omega), enterGain_gau, enterGain_ib]
      exact ⟨rfl, by rw [hrestarts]; rfl, rfl, rfl, rfl, rfl, happlied⟩
  case track =>
    have hexec := exec_gainMeasurement hr (by rw [ha]; decide) hc
    obtain ⟨u, hu, hacq, happlied, hclip, hcauses⟩ := takeMeasurement_track ha hb
    rw [hu] at hexec
    have pushes_iff : pushesPastEnd u.gau.appliedDuty (gainStep (blockError s.gau)) = true ↔
        (s.gau.appliedDuty = 0 ∧ 0 < gainStep (blockError s.gau))
          ∨ (s.gau.appliedDuty = 1023 ∧ gainStep (blockError s.gau) < 0) := by rw [happlied]; exact decide_eq_true_iff
    refine ⟨fun hp h63 => ⟨_, hexec, ?_⟩, fun hp h63 => ⟨_, hexec, ?_⟩, fun hp => ⟨_, hexec, ?_⟩⟩
    · rw [clipMeasured_report (pushes_iff.mpr hp) (by omega), reportCause_track .gainClipped (by exact hacq)]
      simp [enterHold_gau, enterHold_pru, recordCause_gau, setCause, leaveTrack, hacq]
    · rw [clipMeasured_raise (pushes_iff.mpr hp) (by omega)]
      simp only [attempt_frame]
      exact ⟨hacq, congrArg (· + 1) hclip, hcauses⟩
    · rw [clipMeasured_clear (fun h => hp (pushes_iff.mp h))]
      simp only [attempt_frame]
      exact ⟨hacq, trivial⟩


/-! ## The measured level and the gain output (R2, R4) -/

/-- The search answers the least place with the level at least reached, or the end of its range. -/
theorem levelSearch_spec (energy count fuel n : Nat) :
    n ≤ levelSearch energy count fuel n ∧ levelSearch energy count fuel n ≤ n + fuel
      ∧ (levelSearch energy count fuel n < n + fuel → levelAtLeast energy count (levelSearch energy count fuel n) = true)
      ∧ ∀ m, n ≤ m → m < levelSearch energy count fuel n → levelAtLeast energy count m = false := by
  induction fuel generalizing n with
  | zero => simp only [levelSearch]; exact ⟨Nat.le_refl n, Nat.le_refl n, fun h => absurd h (Nat.lt_irrefl n), by omega⟩
  | succ fuel ih =>
    simp only [levelSearch]
    split
    · rename_i h; exact ⟨Nat.le_refl n, by omega, fun _ => h, by omega⟩
    · rename_i h
      obtain ⟨hlow, hhigh, hreached, hbelow⟩ := ih (n + 1)
      refine ⟨by omega, by omega, fun hr => hreached (by omega), fun m hm hl => ?_⟩
      rcases Nat.eq_or_lt_of_le hm with rfl | hm
      · simpa using h
      · exact hbelow m hm hl

/-- The places of a range below a bound are as many as the bound. -/
theorem length_filter_lt_range {d n : Nat} (h : d ≤ n) : ((List.range n).filter fun i => decide (i < d)).length = d := by
  obtain ⟨k, rfl⟩ := Nat.exists_eq_add_of_le h
  have low : (List.range d).filter (fun i => decide (i < d)) = List.range d :=
    List.filter_eq_self.mpr fun i hi => by simpa using hi
  have high : ((List.range k).map (d + ·)).filter (fun i => decide (i < d)) = [] :=
    List.filter_eq_nil_iff.mpr fun i hi => by
      obtain ⟨m, -, rfl⟩ := List.mem_map.mp hi
      simp
  rw [List.range_add, List.filter_append, low, high, List.append_nil, List.length_range]

theorem transferDuty_eq (g : Gau) : transferDuty g = { g with
    appliedDuty := if g.transferPending then g.pendingDuty else g.appliedDuty, transferPending := false } := by
  cases g
  unfold transferDuty
  split <;> simp_all

/-- Settles O12, by what the search for the level answers. -/
theorem levelMeasuredAndDutyOutput : Obligations.LevelMeasuredAndDutyOutput := by
  constructor
  · intro energy count _ n
    obtain ⟨-, hhigh, hreached, hbelow⟩ := levelSearch_spec energy count 900 0
    have hn : n = levelSearch energy count 900 0 := by simp only [n, measuredLevel]; omega
    rw [← hn] at hhigh hreached hbelow
    refine ⟨by simp only [measuredLevel]; omega, by simp only [measuredLevel]; omega, fun h => ?_, fun m hm => ?_⟩
    · simpa only [levelAtLeast, decide_eq_true_eq] using hreached (by omega)
    · simpa only [levelAtLeast, decide_eq_false_iff_not, Nat.not_le] using hbelow m (Nat.zero_le m) hm
  · intro s hr
    refine ⟨?_, fun h => ⟨length_filter_lt_range (by omega), fun i j hij hi => ?_⟩⟩
    · rw [← transferDuty_eq]
      exact whenRunning_running (f := fun s => { s with gau := transferDuty s.gau }) hr rfl
    · simp only [gainHigh, decide_eq_true_eq] at hi ⊢; omega

end Sys2Proof.Machine

/-! # Proofs: the trial (R8, R9) -/

namespace Sys2Proof.Machine

/-! ## The choice at a trial's end -/

theorem chooseCandidate_some {threshold : Nat} {scores : List TrialScore} {t : TrialScore}
    (h : chooseCandidate threshold scores = some t) : ∃ before after, scores = before ++ t :: after
      ∧ threshold ≤ t.score ∧ (∀ x ∈ before, x.score < t.score ∨ x.score < threshold)
      ∧ (∀ x ∈ after, x.score ≤ t.score ∨ x.score < threshold) := by
  obtain ⟨better, worse, hsplit, hbefore, hafter⟩ := bestOf_split
    (by simp only [decide_eq_true_eq, decide_eq_false_iff_not]; omega)
    (by simp only [decide_eq_false_iff_not]; omega) h
  simp only [decide_eq_true_eq, decide_eq_false_iff_not, Nat.not_lt] at hbefore hafter
  obtain ⟨l, r, rfl, hl, hr⟩ := List.filter_eq_append_iff.mp hsplit
  obtain ⟨l', r', rfl, hl', ht, hr'⟩ := List.filter_eq_cons_iff.mp hr
  simp only [decide_eq_true_eq, Nat.not_le] at hl' ht
  have passing {p q : List TrialScore} (hpq : p.filter (fun t => decide (threshold ≤ t.score)) = q) {x : TrialScore}
      (hx : x ∈ p) : x ∈ q ∨ x.score < threshold := by
    by_cases hs : threshold ≤ x.score
    · exact .inl (hpq ▸ List.mem_filter.mpr ⟨hx, by simpa using hs⟩)
    · exact .inr (Nat.not_le.mp hs)
  refine ⟨l ++ l', r', by simp, ht, fun x hx => ?_, fun x hx => (passing hr' hx).imp_left (hafter x)⟩
  rcases List.mem_append.mp hx with hx | hx
  · exact (passing hl hx).imp_left (hbefore x)
  · exact .inr (hl' x hx)

theorem chooseCandidate_none {threshold : Nat} {scores : List TrialScore} :
    chooseCandidate threshold scores = none ↔ ∀ x ∈ scores, x.score < threshold := by
  simp [chooseCandidate, bestOf_eq_none, List.filter_eq_nil_iff]

/-! ## The end of a trial (R9, R11, R19 to R21, R48) -/

theorem exec_trialEnd {s : State} (h : running s) (ha : s.gau.acq = .symbol)
    (hx : s.gau.trialSamples.size = trialLength) : exec .trialEnd s = .next (takeTrialEnd s) := by
  have hdue : endTrialIfDue s = takeTrialEnd s := by simp [endTrialIfDue, trialDue, ha, hx]
  rw [← hdue]
  exact whenRunning_moves (f := endTrialIfDue) h (by decide) (moves_endTrialIfDue s)

theorem takeTrialEnd_some {s : State} {t : TrialScore} (h : trialChoice s = some t) :
    takeTrialEnd s = enterFrameSearch t { s with freeCount := s.freeCount + 1 } := by
  unfold takeTrialEnd; rw [h]

theorem takeTrialEnd_none {s : State} (h : trialChoice s = none) :
    takeTrialEnd s = failTrial { s with freeCount := s.freeCount + 1 } := by
  unfold takeTrialEnd; rw [h]

/-- Settles O14, by the split of a list at its first best element. -/
theorem trialEndTakesFirstBestScore : Obligations.TrialEndTakesFirstBestScore := by
  refine ⟨fun threshold scores => ⟨fun t => chooseCandidate_some, chooseCandidate_none⟩, fun s => ⟨fun h => ?_, fun c h => ?_⟩,
    fun s hr ha hx => ?_⟩
  · unfold trialChoice; rw [h]; rfl
  · unfold trialChoice; rw [h]; rfl
  · have hexec := exec_trialEnd hr ha hx
    refine ⟨fun c hc => ⟨_, hexec, ?_⟩, fun hn h7 => ⟨_, hexec, ?_⟩, fun hn h7 => ⟨_, hexec, ?_⟩⟩
    · rw [takeTrialEnd_some hc, enterFrameSearch_gau, enterFrameSearch_wu, enterFrameSearch_ib]
      exact ⟨rfl, rfl, rfl, rfl, rfl, rfl, rfl, rfl, rfl⟩
    · rw [takeTrialEnd_none hn, failTrial, if_neg (by simp only; omega)]
    · rw [takeTrialEnd_none hn, failTrial, if_pos (by simp only; omega), enterGain_gau, enterGain_ib]
      exact ⟨rfl, rfl, rfl, rfl⟩


/-! ## A sample before which nothing is due (R44) -/

theorem settleBlanker_settled {h : Nat} {ib : Blanker} (hr : runEndDue h ib = false) (ho : overlongDue ib = false)
    (hm : missOverdue ib = false) : settleBlanker h ib = ib := by
  simp [settleBlanker, hr, ho, hm]

theorem settleFrameCounts_settled {s : State} (h : noCountDue s) : settleFrameCounts s = s := by
  simp [settleFrameCounts, h.1, h.2]

theorem boundaryEvent_settled {s : State} (b : Bool) (h : noCountDue s) (hd : boundaryDue s.wu = false) :
    boundaryEvent b s = s := by
  simp [boundaryEvent, settleFrameCounts_settled h, hd]

theorem settleSamples_settled {s : State} (h : nothingDue s) : settleSamples s = s := by
  obtain ⟨hrun, hoverlong, hmiss, hmeasure, htrial, hboundary, hcount, -⟩ := h
  unfold settleSamples
  rw [settleBlanker_settled hrun hoverlong hmiss]
  rw [show measureIfDue s = s by simp [measureIfDue, hmeasure], show endTrialIfDue s = s by simp [endTrialIfDue, htrial],
    boundaryEvent_settled true hcount hboundary, settleFrameCounts_settled hcount]

theorem exec_sample_settled (d : Sample) {s : State} (hr : running s) (h : nothingDue s) :
    exec (.sample d) s = .next (takeSample d s) := by
  have hs : takeSample d (attempt (settleSamples s)) = takeSample d s := by
    obtain ⟨-, -, -, -, -, -, -, hattempt⟩ := id h
    rw [settleSamples_settled h, attempt_settled hattempt]
  rw [← hs]
  exact whenRunning_acquisition (f := fun s => takeSample d (attempt (settleSamples s))) hr
    ((moves_settleSamples s).trans ((moves_attempt_acquisition _).trans (moves_takeSample d _)))

theorem takeSample_idle (d : Sample) {s : State} (h : s.gau.acq = .idle) :
    takeSample d s = { s with ib := passSample d s.ib } := by
  simp [takeSample, h]

/-- The blanker's verdict on a sample and what is left of the blanker (R45 to R48). -/
def judged (d : Sample) (s : State) : Bool × Blanker := blankSample s.cfg.impulseThreshold s.gau.rms s.gau.held d s.ib

theorem takeSample_active (d : Sample) {s : State} (h : s.gau.acq ≠ .idle) : takeSample d s = { s with
    ib := (judged d s).2, gau := gauSample (judged d s).1 (judged d s).2.out s.gau, wu := passGrid s.wu } := by
  simp [takeSample, judged, h]

theorem gauSample_trialSamples (b : Bool) (d : Sample) (g : Gau) : (gauSample b d g).trialSamples =
    if g.acq = .symbol then g.trialSamples.push d else g.trialSamples := by
  unfold gauSample blockSample
  dsimp only
  split <;> rfl

/-! ## The score of a candidate (R8) -/

/-- The positions of one residue are the residue and every whole period after it. -/
theorem filter_mod_range {n r : Nat} (hr : r < n) (m : Nat) : ((List.range m).filter fun p => decide (p % n = r))
    = (List.range ((m - r + n - 1) / n)).map fun k => r + k * n := by
  induction m with
  | zero => rw [Nat.div_eq_of_lt (by omega)]; rfl
  | succ m ih =>
    rw [List.range_succ, List.filter_append, ih]
    by_cases hm : m % n = r
    · have hq : m = r + n * (m / n) := by rw [← hm]; exact (Nat.mod_add_div m n).symm
      have before : (m - r + n - 1) / n = m / n := by
        rw [show m - r + n - 1 = n * (m / n) + (n - 1) by omega, Nat.mul_add_div (by omega),
          Nat.div_eq_of_lt (a := n - 1) (by omega), Nat.add_zero]
      have after : (m + 1 - r + n - 1) / n = m / n + 1 := by
        rw [show m + 1 - r + n - 1 = n * (m / n) + n by omega, Nat.mul_add_div (by omega), Nat.div_self (by omega)]
      rw [before, after, List.range_succ, List.map_append, List.map_singleton, Nat.mul_comm (m / n), ← hq]
      simp [hm]
    · have same : (m + 1 - r + n - 1) / n = (m - r + n - 1) / n := by
        rcases Nat.lt_or_ge m r with hlt | hge
        · rw [Nat.div_eq_of_lt (by omega), Nat.div_eq_of_lt (by omega)]
        · rw [show m + 1 - r + n - 1 = (m - r + n - 1) + 1 by omega, Nat.succ_div, if_neg, Nat.add_zero]
          rw [show m - r + n - 1 + 1 = m - r + n by omega, Nat.dvd_add_self_right]
          rintro ⟨q, hq⟩
          exact hm (by rw [show m = r + n * q by omega, Nat.add_mul_mod_self_left, Nat.mod_eq_of_lt hr])
      rw [same]
      simp [hm]

/-- The highest value of a list stands at the place answered, and no earlier place holds it. -/
theorem highestAt_spec {l : List Nat} (h : l ≠ []) : l[(highestAt l).2]? = some (highestAt l).1
    ∧ ∀ i v, l[i]? = some v → v < (highestAt l).1 ∨ (v = (highestAt l).1 ∧ (highestAt l).2 ≤ i) := by
  induction l with
  | nil => exact absurd rfl h
  | cons x l ih =>
    have rest : ∀ i v, l[i]? = some v → v < (highestAt l).1 ∨ (v = (highestAt l).1 ∧ (highestAt l).2 ≤ i) := by
      cases l with
      | nil => intro i v hv; simp at hv
      | cons y l => exact (ih (List.cons_ne_nil y l)).2
    simp only [highestAt]
    split
    · rename_i hx
      refine ⟨rfl, fun i v hv => ?_⟩
      cases i with
      | zero => simp only [List.getElem?_cons_zero, Option.some.injEq] at hv; exact .inr ⟨hv.symm, Nat.le_refl 0⟩
      | succ i =>
        have := rest i v (by simpa using hv)
        omega
    · rename_i hx
      have hl : l ≠ [] := by rintro rfl; simp [highestAt] at hx
      refine ⟨by simpa using (ih hl).1, fun i v hv => ?_⟩
      cases i with
      | zero => simp only [List.getElem?_cons_zero, Option.some.injEq] at hv; exact .inl (by omega)
      | succ i =>
        have := rest i v (by simpa using hv)
        omega

theorem symbolLength_pos (c : Candidate) : 0 < symbolLength c := by
  obtain ⟨m, g⟩ := c
  cases m <;> simp [symbolLength, usefulLength]

/-- The magnitudes of the positions of one residue, summed, are the value accumulated at it (R8). -/
theorem accumulated_eq (x : Array Sample) (c : Candidate) {r : Nat} (hr : r < symbolLength c) : accumulated x c r =
    (((List.range (trialPositions c)).filter fun p => decide (p % symbolLength c = r)).map
      fun p => (correlation x c p).natAbs).sum := by
  rw [filter_mod_range hr, List.map_map]; rfl

theorem accumulation_highest (x : Array Sample) (c : Candidate) :
    (highestAt (accumulation x c)).2 < symbolLength c
      ∧ accumulated x c (highestAt (accumulation x c)).2 = (highestAt (accumulation x c)).1
      ∧ ∀ r < symbolLength c, accumulated x c r < (highestAt (accumulation x c)).1
        ∨ (accumulated x c r = (highestAt (accumulation x c)).1 ∧ (highestAt (accumulation x c)).2 ≤ r) := by
  have place {i v : Nat} : (accumulation x c)[i]? = some v ↔ i < symbolLength c ∧ accumulated x c i = v := by
    by_cases hi : i < symbolLength c <;> simp [accumulation, hi]
  have hne : accumulation x c ≠ [] := fun h => by
    have := place.mpr ⟨symbolLength_pos c, rfl⟩
    rw [h] at this
    cases this
  obtain ⟨hat, hall⟩ := highestAt_spec hne
  obtain ⟨hlt, hval⟩ := place.mp hat
  exact ⟨hlt, hval, fun r hr => hall r _ (place.mpr ⟨hr, rfl⟩)⟩

/-- Settles O15: the accumulated values are the statement's sums, and the search for the highest finds its lowest place. -/
theorem trialScoresItsSamples : Obligations.TrialScoresItsSamples := by
  constructor
  · intro free x c n correlated value total t
    have hvalue : ∀ r, r < n → value r = accumulated x c r := fun r hr => (accumulated_eq x c hr).symm
    have htotal : total = (accumulation x c).sum :=
      congrArg List.sum (List.map_congr_left fun r hr => hvalue r (List.mem_range.mp hr))
    obtain ⟨hpeak, hhighest, hall⟩ := accumulation_highest x c
    have htop : value t.peak = (highestAt (accumulation x c)).1 := (hvalue _ hpeak).trans hhighest
    refine ⟨rfl, hpeak, fun r hr => ?_, fun h => ?_, fun h => ?_⟩
    · rw [hvalue r hr, htop]; exact hall r hr
    · rw [htop, htotal]
      exact if_neg (by omega)
    · exact if_pos (htotal.symm.trans h)
  · intro d s hr hd
    refine ⟨_, exec_sample_settled d hr hd, fun ha => ?_, fun ha => ?_⟩
    · rw [takeSample_active d (by rw [ha]; decide)]
      exact (gauSample_trialSamples _ _ _).trans (if_pos ha)
    · by_cases hi : s.gau.acq = .idle
      · rw [takeSample_idle d hi]
      · rw [takeSample_active d hi]
        exact (gauSample_trialSamples _ _ _).trans (if_neg ha)

end Sys2Proof.Machine

/-! # Proofs: falls, packets outside TRACK and frames sent -/

namespace Sys2Proof.Machine

/-! ## Frame passes and the hold limit (R11, R12, R16, R19) -/

/-- A gated command whose effect on this state is a run of moves to `t` answers `t`. -/
theorem whenRunning_to {f : State → State} {s t : State} (h : running s) (ht : f s = t)
    (hm : Moves acquisitionBlocks s t) : whenRunning f s = .next t := by
  subst ht; exact whenRunning_acquisition h hm

theorem exec_framePass {s : State} (hr : running s) (hd : passDue s = true) : exec .framePass s = .next (takePass s) :=
  whenRunning_to (f := fun s => if passDue s then takePass s else s) hr (if_pos hd) (moves_takePass hd)

theorem exec_holdLimit {s : State} (hr : running s) (hd : holdLimitDue s = true) :
    exec .holdLimit s = .next (attempt (takeHoldLimit s)) :=
  whenRunning_to (f := fun s => if holdLimitDue s then attempt (takeHoldLimit s) else s) hr (if_pos hd)
    ((moves_takeHoldLimit hd).trans (moves_attempt_acquisition _))

/-- A pass short of the third is counted alone (R12). -/
theorem countPass_counted {s : State} (h : s.gau.passCount < 2) :
    countPass s = { s with gau := { s.gau with passCount := s.gau.passCount + 1 } } :=
  if_neg (by simp only; omega)

/-- The third pass counts a fall and enters SYMBOL (R12, R19). -/
theorem countPass_third {s : State} (h : 2 ≤ s.gau.passCount) : countPass s = enterSymbol { s with gau := { s.gau with
    passCount := s.gau.passCount + 1, fallsFrame := satAdd 255 s.gau.fallsFrame 1 } } :=
  if_pos (by simp only; omega)

theorem passDue_iff {s : State} :
    passDue s = true ↔ s.gau.acq = .frame ∧ s.gau.subState = .search ∧ 64 ≤ s.gau.searchCount := decide_eq_true_iff

theorem holdLimitDue_iff {s : State} :
    holdLimitDue s = true ↔ s.gau.acq = .hold ∧ s.cfg.holdLimit ≤ s.gau.holdCount := decide_eq_true_iff

/-- Settles O16: a pass is counted unless it is the third; the third and a hold limit reached enter SYMBOL. -/
theorem passesAndHoldLimitFallBack : Obligations.PassesAndHoldLimitFallBack := by
  intro s hr
  have pass (ha : s.gau.acq = .frame) (hsub : s.gau.subState = .search) (hc : s.gau.searchCount = 64) :
      exec .framePass s = .next (takePass s) := exec_framePass hr (passDue_iff.mpr ⟨ha, hsub, hc.ge⟩)
  refine ⟨fun ha hsub hc hp => ?_, fun ha hsub hc hp => ⟨_, pass ha hsub hc, ?_⟩,
    fun ha hh => ⟨_, exec_holdLimit hr (holdLimitDue_iff.mpr ⟨ha, hh.ge⟩), ?_⟩⟩
  · rw [pass ha hsub hc, takePass, countPass_counted (by exact hp)]
  · rw [takePass, countPass_third (by exact hp.ge), enterSymbol_gau, enterSymbol_wu]
    exact ⟨rfl, rfl, rfl, rfl, rfl⟩
  · simp only [attempt_frame]
    rw [takeHoldLimit, enterSymbol_gau, enterSymbol_wu, enterSymbol_errorRun]
    exact ⟨rfl, rfl, rfl, rfl, rfl, rfl, rfl, rfl⟩

/-! ## Packets outside TRACK (R57, R61, R63) -/

/-- No frame begins where none could and the bus, the slots and the role stand as they stood. -/
theorem attemptSettled_of_same {s t : State} (h : attemptSettled s) (hri : t.ri = s.ri) (hou : t.ou = s.ou)
    (hsilence : t.silence = s.silence) : attemptSettled t := by
  have hallowed : allowedFrame t = allowedFrame s := by simp [allowedFrame, mayTransmit, selectFrame, hri, hou, hsilence]
  intro hbus htx
  rw [hri] at hbus htx
  exact hallowed.trans (h hbus htx)

theorem erroredFlag_iff {p : Packet} {u : Bool} : erroredFlag p u = true ↔ u = true ∨ p[1].msb = true := by
  simp [erroredFlag, errorIndicator]

theorem countError_raise {s : State} (h : s.pru.errorRun < 63) :
    countError true s = { s with pru := { s.pru with errorRun := s.pru.errorRun + 1 } } :=
  if_neg (by simp only [errorRunAfter, if_pos]; omega)

theorem countError_burst {s : State} (h : s.pru.errorRun = 63) : countError true s =
    { s with pru := { s.pru with errorRun := 0 }, waiting := { s.waiting with burst := true } } :=
  if_pos (by simp only [errorRunAfter, if_pos]; omega)

theorem countError_clear (s : State) : countError false s = { s with pru := { s.pru with errorRun := 0 } } := rfl

theorem settleRecord_nothing {s : State} (h : s.waiting = nothingWaits) : settleRecord s = s := by
  simp [settleRecord, h, nothingWaits]

theorem settleBurst_nothing {s : State} (h : s.waiting.burst = false) : settleBurst s = s := by
  simp [settleBurst, h]

/-- A decoded packet of a running station, its report taken within the step. -/
theorem exec_packet_now {p : Packet} {r : PacketReport} {s t : State} (hr : running s) (hl : r.reportLater = false)
    (ht : takePacket p r.uncorrectable r.recordLater s = t) : exec (.packetDecoded p r) s = .next (attempt (settleBurst t)) := by
  change execPacketDecoded p r s = _
  simp [execPacketDecoded, packetEvent, settleRecord_nothing hr.2, hr.1, hl, ht]

/-- A decoded packet of a running station, its report left to the command after it. -/
theorem exec_packet_later {p : Packet} {r : PacketReport} {s t : State} (hr : running s) (hl : r.reportLater = true)
    (ht : takePacket p r.uncorrectable r.recordLater s = t) : exec (.packetDecoded p r) s = .next (attempt t) := by
  change execPacketDecoded p r s = _
  simp [execPacketDecoded, packetEvent, settleRecord_nothing hr.2, hr.1, hl, ht]

/-- A decoded packet of a running station that brings no report about. -/
theorem exec_packet {p : Packet} {r : PacketReport} {s t : State} (hr : running s)
    (ht : takePacket p r.uncorrectable r.recordLater s = t) (hb : t.waiting.burst = false) (ha : attemptSettled t) :
    exec (.packetDecoded p r) s = .next t := by
  cases hl : r.reportLater with
  | true => rw [exec_packet_later hr hl ht, attempt_settled ha]
  | false => rw [exec_packet_now hr hl ht, settleBurst_nothing hb, attempt_settled ha]

theorem takePacket_hold {p : Packet} {u l : Bool} {s : State} (h : s.gau.acq = .hold) :
    takePacket p u l s = countError (erroredFlag p u) s := by
  simp [takePacket, h]

/-- Below HOLD a packet is discarded (R57). -/
theorem takePacket_below {p : Packet} {u l : Bool} {s : State} (ht : s.gau.acq ≠ .track) (hh : s.gau.acq ≠ .hold) :
    takePacket p u l s = s := by
  unfold takePacket
  split
  · rename_i h; exact absurd h ht
  · rename_i h; exact absurd h hh
  all_goals rfl

/-- Settles O26: in HOLD the packet moves the error run, whose 64th is reported outside TRACK and so recorded alone. -/
theorem packetsOutsideTrackAreWithheld : Obligations.PacketsOutsideTrackAreWithheld := by
  intro p r s hr hs
  have hburst : s.waiting.burst = false := by rw [hr.2]; rfl
  have held (e : Bool) (ha : s.gau.acq = .hold) (he : erroredFlag p r.uncorrectable = e) :
      takePacket p r.uncorrectable r.recordLater s = countError e s := by rw [takePacket_hold ha, he]
  refine ⟨fun ha he hlt => ?_, fun ha hu hp => ?_, fun ha he h63 => ⟨fun hl => ?_, fun hl => ?_⟩, fun ht hh => ?_⟩
  · exact exec_packet hr ((held true ha (erroredFlag_iff.mpr he)).trans (countError_raise hlt)) hburst
      (attemptSettled_of_same hs rfl rfl rfl)
  · have hf : erroredFlag p r.uncorrectable = false := by simp [erroredFlag, errorIndicator, hu, hp]
    exact exec_packet hr ((held false ha hf).trans (countError_clear s)) hburst (attemptSettled_of_same hs rfl rfl rfl)
  · rw [exec_packet_now hr hl ((held true ha (erroredFlag_iff.mpr he)).trans (countError_burst h63)), settleBurst, if_pos rfl,
      reportCause_other _ (by simp only [ha]; decide), attempt_settled (attemptSettled_of_same hs (by rfl) (by rfl) (by rfl))]
    simp [recordCause, setCause, ← hburst]
  · rw [exec_packet_later hr hl ((held true ha (erroredFlag_iff.mpr he)).trans (countError_burst h63)),
      attempt_settled (attemptSettled_of_same hs (by rfl) (by rfl) (by rfl))]
    simp [hr.2, nothingWaits]
  · exact exec_packet hr (takePacket_below ht hh) hburst hs

/-! ## A STATUS that wins arbitration (R17, R98, R103 to R105) -/

theorem winArbitration_status {s : State} (h : s.ri.tx = .arbitrating .status) : winArbitration s = winStatus s := by
  simp [winArbitration, winFrame, h]

/-- Settles O38: the frame is `statusContent`, and the marks are those of `carryReports` and `markCauses`. -/
theorem winningStatusTakesContent : Obligations.WinningStatusTakesContent := by
  intro s hr htx hrole
  have hexec : exec .arbitrationWon s = .next (winStatus s) := by
    rw [← winArbitration_status htx]
    exact whenRunning_running hr (by rw [winArbitration_status htx]; rfl)
  have hphase (h : s.ou.role ≠ .owner) : announcedPhase s = .none := if_neg h
  refine ⟨_, statusContent s, hexec, rfl, by simp [winStatus, hrole, transmit, carryReports, markCauses],
    rfl, rfl, rfl, rfl, rfl, rfl, rfl, rfl, fun h => ⟨?_, ?_⟩, hphase, fun h => ?_, fun h => ?_, fun h => ?_,
    rfl, rfl, rfl, rfl, rfl, rfl, rfl, rfl, rfl, rfl, rfl, rfl, rfl, rfl, rfl, rfl, rfl⟩
  · simp [statusContent, announcedRole, h]
  · simp [statusContent, announcedPhase, h]
  all_goals simp [statusContent, announcedRole, h]

/-! ## Frames sent (R18, R100, R103, R104, R127, R136, R142) -/

theorem completeFrame_sent {f : Frame} {s : State} (h : s.ri.tx = .transmitting f) :
    completeFrame s = frameSentEffect f (stopDriving s) := by
  simp [completeFrame, h]

/-- A completed frame of a running station, by the effect it has once the bus is let go. -/
theorem exec_frameSent {f : Frame} {s t : State} (hr : running s) (h : s.ri.tx = .transmitting f)
    (ht : frameSentEffect f (stopDriving s) = t) (hw : t.waiting = s.waiting) : exec .frameSent s = .next t := by
  have hf := (completeFrame_sent h).trans ht
  rw [← hf]
  exact whenRunning_running hr (hf ▸ hw)

/-- Out of a role other than OWNER, a change of role touches the bus by its STATUS request alone (R101). -/
theorem changeRole_ri {r : Role} {s : State} (h : s.ou.role ≠ .owner) :
    (changeRole r s).ri = { s.ri with statusSlot := true } := by
  simp [changeRole, h, setRole, clearAdmission, requestStatus]

theorem endYield_waiting (s : State) : (endYield s).waiting = s.waiting :=
  (moves_endYield s).changesOnly.same (b := .waiting) (by decide)

/-- The end of a yield is the change into the role the acquisition state calls for (R136, R142). -/
theorem endYield_yielding {s : State} (h : s.ou.role = .yielding) : endYield s = changeRole (restingRole s) s := if_pos h

theorem restingRole_below {s : State} (ht : s.gau.acq ≠ .track) (hh : s.gau.acq ≠ .hold) : restingRole s = .absent := by
  cases ha : s.gau.acq <;> simp_all [restingRole, belowHold]

theorem restingRole_kept {s : State} (h : s.gau.acq = .track ∨ s.gau.acq = .hold) : restingRole s = .standby := by
  rcases h with h | h <;> simp [restingRole, belowHold, h]

/-- Settles O40, frame by frame; the YIELD's completion is a change of role. -/
theorem frameSentReachesItsOwner : Obligations.FrameSentReachesItsOwner := by
  refine ⟨fun s hr => ⟨fun f htx => ?status, fun f htx => ?take, fun h p htx hd => ?payload⟩, fun f s hr htx hy => ?yield⟩
  case status =>
    refine ⟨_, exec_frameSent hr htx rfl rfl, rfl, rfl, rfl, fun c => ?_, rfl, rfl, rfl, rfl, rfl, rfl, rfl, rfl⟩
    exact causePresent_without c _ _
  case take =>
    by_cases ht : s.ou.role = .taking
    · exact exec_frameSent hr htx (by simp [frameSentEffect, stopDriving, startHandover, ht]) rfl
    · exact exec_frameSent hr htx (by simp [frameSentEffect, stopDriving, ht]) rfl
  case payload =>
    exact exec_frameSent hr htx (by simp [frameSentEffect, stopDriving, draining, hd]) rfl
  case yield =>
    obtain ⟨hou, -, hhbu, hslot⟩ := changeRole_spec (restingRole s) (stopDriving s)
    have hri : (changeRole (restingRole s) (stopDriving s)).ri = { s.ri with tx := .silent, statusSlot := true } :=
      changeRole_ri (s := stopDriving s) (fun hn => absurd (hy.symm.trans hn) (by decide))
    have hend : frameSentEffect (.yield f) (stopDriving s) = changeRole (restingRole s) (stopDriving s) :=
      endYield_yielding (s := stopDriving s) hy
    refine ⟨_, exec_frameSent hr htx hend (hend ▸ endYield_waiting (stopDriving s)), by rw [hri], hslot, by rw [hou],
      fun hk => by rw [hou, restingRole_kept hk], fun ht hh => ?_⟩
    rw [hou, hhbu, restingRole_below ht hh]
    exact ⟨rfl, rfl, rfl⟩

end Sys2Proof.Machine

/-! # Proofs: the completion of configuration (R182, R183, R187) -/

namespace Sys2Proof.Machine

/-- A service entry fails the checks of its codes and its FIXED form (R183). -/
def entryFaulty (p : List Byte) (i : Nat) : Prop :=
  2 < u8At p (8 * i + 4) ∨ 2 < u8At p (8 * i + 7)
    ∨ (u8At p (8 * i + 4) = 2 ∧ (u16At p (8 * i + 2) ≠ 1 ∨ 8191 ≤ u16At p (8 * i + 5)))

theorem entrySound_iff (p : List Byte) (i : Nat) : entrySound (rawEntryAt p (8 * i)) = true ↔ ¬entryFaulty p i := by
  simp only [entrySound, Bool.and_eq_true, Bool.or_eq_true, decide_eq_true_eq, bne_iff_ne, beq_iff_eq]
  simp only [entryFaulty, rawEntryAt]
  omega

theorem imageEntries_length (kept : List Record) :
    (imageEntries kept).length = ((payloadsOf .service kept).map fun p => p.length / 8).sum := by
  simp [imageEntries, rawEntries, List.length_flatMap]

theorem imageEntries_sound (kept : List Record) : (imageEntries kept).all entrySound = true ↔
    ∀ p ∈ payloadsOf .service kept, ∀ i < p.length / 8, ¬entryFaulty p i := by
  simp [imageEntries, rawEntries, ← entrySound_iff]

/-- The record checks of R183, as the model runs them and as the rule lists what fails them. -/
theorem recordsSound_iff (kept : List Record) : recordsSound kept = true ↔ ¬imageFaulty kept := by
  have faulty : imageFaulty kept ↔ _ ∨ _ ∨ _ ∨ _ ∨ _ ∨ _ ∨ _ ∨ _ ∨ ∃ p ∈ payloadsOf .service kept, ∃ i < p.length / 8,
    entryFaulty p i := Iff.rfl
  rw [faulty]
  simp only [recordsSound, Bool.and_eq_true, imageEntries_sound]
  simp only [Bool.and_eq_true, imageEntries_length, decide_eq_true_eq, beq_iff_eq, List.all_eq_true, bne_iff_ne, not_or, not_exists, not_and, Nat.not_lt, ne_eq, not_not, and_assoc]

/-- A record read of a running station that awaits it (R182). -/
theorem exec_recordRead {d : List Byte} {a : Nat} {s t : State} (hr : running s) (hg : s.loader.stage = .recordRead a)
    (hs : s.loader.state ≠ .complete) (ht : takeRecordRead a d s = t) (hw : t.waiting = s.waiting) :
    exec (.recordRead d) s = .next t := by
  have hf : recordReadEvent d s = t := by simp [recordReadEvent, hg, fetchAt_iff.mpr ⟨hg, hs⟩, ht]
  rw [← hf]
  exact whenRunning_running (f := recordReadEvent d) hr (hf ▸ hw)

/-- A station that has read one more good record (R182). -/
def withRecord (r : Record) (s : State) : State :=
  { s with loader := { s.loader with recordCount := s.loader.recordCount + 1, kept := s.loader.kept ++ [r] } }

/-- The last record of a sound image completes the fetch (R183, R187). -/
theorem takeRecordRead_last {a : Nat} {d : List Byte} {r : Record} {s : State}
    (hread : readRecord s.loader.imageLength a d = some r) (hc : s.loader.recordCount < 40) (hnext : u24At d 3 = 0)
    (himage : ¬imageFaulty (s.loader.kept ++ [r])) : takeRecordRead a d s = completeFetch (withRecord r s) := by
  have hcount : ¬41 ≤ (withRecord r s).loader.recordCount := by simp only [withRecord]; omega
  calc takeRecordRead a d s
      = keepRecord r (nextRecordAddress d) s := by simp [takeRecordRead, hread]
    _ = walkTo (nextRecordAddress d) (withRecord r s) := if_neg hcount
    _ = endWalk (withRecord r s) := if_pos hnext
    _ = completeFetch (withRecord r s) := if_pos ((recordsSound_iff _).mpr himage)

/-- Settles O7: the completed image releases the blocks, and the GAU leaves IDLE with no move of the role. -/
theorem completionReleasesBlocks : Obligations.CompletionReleasesBlocks := by
  intro d a r s hr hs hg hread hc hnext himage hacq hrole
  have hdone : completeFetch (withRecord r s) = _ :=
    enterGain_atRest (s := released (s.loader.kept ++ [r]) (withRecord r s)) ⟨hacq, hrole⟩
  have hlast := (takeRecordRead_last hread hc hnext himage).trans hdone
  refine ⟨_, exec_recordRead hr hg hs hlast ?_, ?_⟩ <;> simp [released, withRecord]

end Sys2Proof.Machine

/-! # Proofs: symbol boundaries (R21 to R23, R38, R39, R48 to R50) -/

namespace Sys2Proof.Machine

/-! ## The parts of a boundary -/

/-- A boundary is counted by the window unit's counters and by the GAU, before the window and the blanker act (R11, R16, R22). -/
def counted (s : State) : State := { s with wu := markBoundary (advanceCounters s.wu), gau := gauBoundary s.gau }

theorem takeBoundary_windowFirst (s : State) :
    takeBoundary true s = blankerBoundary (windowBoundary (isFrameBoundary s.wu) (counted s)) := rfl

theorem takeBoundary_blankerFirst (s : State) :
    takeBoundary false s = windowBoundary (isFrameBoundary s.wu) (blankerBoundary (counted s)) := rfl

theorem boundaryEvent_due {b : Bool} {s : State} (h : noCountDue s) (hd : boundaryDue s.wu = true) :
    boundaryEvent b s = takeBoundary b s := by
  simp [boundaryEvent, settleFrameCounts_settled h, hd]

theorem exec_symbolBoundary (b : Bool) {s : State} (hr : running s) :
    exec (.symbolBoundary b) s = .next (attempt (boundaryEvent b s)) :=
  whenRunning_acquisition (f := fun s => attempt (boundaryEvent b s)) hr
    ((moves_boundaryEvent b s).trans (moves_attempt_acquisition _))

theorem noCountDue_track {s : State} (h : s.gau.acq = .track) : noCountDue s := by
  simp [noCountDue, passDue, holdLimitDue, h]

theorem gauBoundary_eq (g : Gau) :
    gauBoundary g = { g with searchCount := (gauBoundary g).searchCount, holdCount := (gauBoundary g).holdCount } := by
  unfold gauBoundary; split <;> (try split) <;> rfl

/-- What the symbol indices, the counters and the grid are, whatever the window positions. -/
def sameTiming (wu wu' : Window) : Prop := wu'.grid = wu.grid ∧ wu'.presetDue = wu.presetDue
  ∧ wu'.symbolIndex = wu.symbolIndex ∧ wu'.frameCounter = wu.frameCounter

/-! ### The window unit's part (R38, R39, R15) -/

theorem windowBoundary_other {f : Bool} {s : State} (h : s.gau.acq ≠ .track) : windowBoundary f s = s := if_neg h

theorem windowBoundary_unmarked {f : Bool} {s : State} (h : s.wu.mark = .none) : windowBoundary f s = s := by
  simp [windowBoundary, h]

theorem windowBoundary_step {f : Bool} {s : State} (ht : s.gau.acq = .track) (h : s.wu.mark = .step) :
    windowBoundary f s = { s with wu := transferWindow s.wu } := by
  simp [windowBoundary, ht, h]

theorem windowBoundary_jump {s : State} (ht : s.gau.acq = .track) (h : s.wu.mark = .jump) :
    windowBoundary true s = reportCause .windowJump { s with wu := transferWindow s.wu } := by
  simp [windowBoundary, ht, h]

theorem windowBoundary_jumpWaits {s : State} (h : s.wu.mark = .jump) : windowBoundary false s = s := by
  simp [windowBoundary, h]

/-- The window unit's part changes nothing, transfers the pending position, or transfers a jump and reports it. -/
theorem windowBoundary_cases (f : Bool) (s : State) : windowBoundary f s = s
    ∨ windowBoundary f s = { s with wu := transferWindow s.wu }
    ∨ (s.wu.mark = .jump ∧ windowBoundary f s = reportCause .windowJump { s with wu := transferWindow s.wu }) := by
  by_cases ht : s.gau.acq = .track
  · cases hm : s.wu.mark with
    | none => exact .inl (windowBoundary_unmarked hm)
    | step => exact .inr (.inl (windowBoundary_step ht hm))
    | jump =>
      cases f with
      | false => exact .inl (windowBoundary_jumpWaits hm)
      | true => exact .inr (.inr ⟨rfl, windowBoundary_jump ht hm⟩)
  · exact .inl (windowBoundary_other ht)

theorem reportCause_wu (c : Cause) (s : State) : (reportCause c s).wu = s.wu := by simp

theorem windowBoundary_timing (f : Bool) (s : State) : sameTiming s.wu (windowBoundary f s).wu := by
  rcases windowBoundary_cases f s with h | h | ⟨-, h⟩ <;> rw [h]
  · exact ⟨rfl, rfl, rfl, rfl⟩
  · exact ⟨rfl, rfl, rfl, rfl⟩
  · rw [reportCause_wu]; exact ⟨rfl, rfl, rfl, rfl⟩

/-! ### The blanker's part (R48 to R50) -/

/-- The first boundary after a choice judges nothing (R48). -/
def unjudged (s : State) : State :=
  { s with
    ib := { s.ib with blankedCount := 0, firstBoundary := false }
    pru := { s.pru with slot := slotBoundary s.pru.slot } }

theorem blankerBoundary_first {c : Candidate} {s : State} (hc : s.gau.held = some c) (h : s.ib.firstBoundary = true) :
    blankerBoundary s = unjudged s := by
  simp [blankerBoundary, hc, symbolVerdict, h, unjudged]

theorem blankerBoundary_judges {c : Candidate} {s : State} (hc : s.gau.held = some c) (h : s.ib.firstBoundary = false) :
    blankerBoundary s = closeSymbol (decide (erasureLimit s.cfg.eraseFraction c < s.ib.blankedCount)) s := by
  simp [blankerBoundary, hc, symbolVerdict, h]

/-- The blanker's part changes nothing, judges nothing, or closes the symbol with a verdict. -/
theorem blankerBoundary_cases (s : State) :
    blankerBoundary s = s ∨ blankerBoundary s = unjudged s ∨ ∃ e, blankerBoundary s = closeSymbol e s := by
  cases hc : s.gau.held with
  | none => exact .inl (by simp [blankerBoundary, hc])
  | some c =>
    cases hf : s.ib.firstBoundary with
    | true => exact .inr (.inl (blankerBoundary_first hc hf))
    | false => exact .inr (.inr ⟨_, blankerBoundary_judges hc hf⟩)

theorem closeSymbol_wu (e : Bool) (s : State) : (closeSymbol e s).wu =
    { s.wu with erasedCount := if e then satAdd 4 s.wu.erasedCount 1 else s.wu.erasedCount } := by
  rw [closeSymbol_eq]
  split
  · exact reportCause_wu .erasureBurst (symbolClosed e s)
  · rfl

theorem blankerBoundary_wu (s : State) : ∃ n, (blankerBoundary s).wu = { s.wu with erasedCount := n } := by
  rcases blankerBoundary_cases s with h | h | ⟨e, h⟩ <;> rw [h]
  · exact ⟨_, rfl⟩
  · exact ⟨_, rfl⟩
  · exact ⟨_, closeSymbol_wu e s⟩

/-- Outside TRACK the blanker's part records its report alone. -/
theorem blankerBoundary_gau {s : State} (h : s.gau.acq ≠ .track) :
    (blankerBoundary s).gau = s.gau ∨ (blankerBoundary s).gau = (recordCause .erasureBurst s).gau := by
  rcases blankerBoundary_cases s with hb | hb | ⟨e, hb⟩ <;> rw [hb]
  · exact .inl rfl
  · exact .inl rfl
  · rw [closeSymbol_eq]
    split
    · rw [reportCause_other _ (by exact h)]; exact .inr rfl
    · exact .inl rfl

/-! ## What a boundary leaves of the window unit -/

theorem sameTiming.trans {a b c : Window} (h : sameTiming a b) (h' : sameTiming b c) : sameTiming a c := by
  obtain ⟨hgrid, hpreset, hindex, hcounter⟩ := h
  obtain ⟨hgrid', hpreset', hindex', hcounter'⟩ := h'
  exact ⟨hgrid'.trans hgrid, hpreset'.trans hpreset, hindex'.trans hindex, hcounter'.trans hcounter⟩

theorem blankerBoundary_timing (s : State) : sameTiming s.wu (blankerBoundary s).wu := by
  obtain ⟨n, h⟩ := blankerBoundary_wu s
  rw [h]; exact ⟨rfl, rfl, rfl, rfl⟩

theorem takeBoundary_timing (b : Bool) (s : State) :
    sameTiming (markBoundary (advanceCounters s.wu)) (takeBoundary b s).wu := by
  cases b with
  | true => exact (windowBoundary_timing _ (counted s)).trans (blankerBoundary_timing _)
  | false => exact (blankerBoundary_timing (counted s)).trans (windowBoundary_timing _ _)

/-- A boundary for which a preset was made keeps its index and counter (R23). -/
theorem advanceCounters_preset {wu : Window} (h : wu.presetDue = true) :
    advanceCounters wu = { wu with presetDue := false } := if_pos h

theorem advanceCounters_counts {wu : Window} (h : wu.presetDue = false) (hi : wu.symbolIndex ≤ 63)
    (hc : wu.frameCounter ≤ 65535) : advanceCounters wu = { wu with
      symbolIndex := (wu.symbolIndex + 1) % 64
      frameCounter := if wu.symbolIndex = 63 then (wu.frameCounter + 1) % 65536 else wu.frameCounter } := by
  rw [advanceCounters, if_neg (by simp [h])]
  by_cases h63 : wu.symbolIndex = 63
  · have hwrap : (if 65535 ≤ wu.frameCounter then 0 else wu.frameCounter + 1) = (wu.frameCounter + 1) % 65536 := by
      split <;> omega
    rw [if_pos (by omega), if_pos h63, hwrap, h63]
  · rw [if_neg (by omega), if_neg h63, Nat.mod_eq_of_lt (by omega)]

theorem advanceCounters_index {wu : Window} (h : wu.presetDue = false) (hi : wu.symbolIndex ≤ 63) :
    (advanceCounters wu).symbolIndex = (wu.symbolIndex + 1) % 64 := by
  rw [advanceCounters, if_neg (by simp [h])]
  split <;> simp only <;> omega

theorem advanceGrid_position {g : Grid} (h : g.position < g.period) :
    (advanceGrid g).position = (g.position + 1) % g.period := by
  unfold advanceGrid
  split
  · rename_i hlt; exact (Nat.mod_eq_of_lt hlt).symm
  · rw [show g.position + 1 = g.period by omega, Nat.mod_self]

theorem iterate_advanceGrid (n : Nat) {g : Grid} (h : g.position < g.period) :
    (advanceGrid^[n] g).position = (g.position + n) % g.period ∧ (advanceGrid^[n] g).period = g.period
      ∧ (advanceGrid^[n] g).peak = g.peak ∧ (0 < n → (advanceGrid^[n] g).taken = false) := by
  induction n with
  | zero => exact ⟨(Nat.mod_eq_of_lt h).symm, rfl, rfl, fun hn => absurd hn (Nat.lt_irrefl 0)⟩
  | succ n ih =>
    obtain ⟨hpos, hper, hpeak, -⟩ := ih
    have hlt : (advanceGrid^[n] g).position < (advanceGrid^[n] g).period := by
      rw [hpos, hper]; exact Nat.mod_lt _ (by omega)
    rw [Function.iterate_succ_apply']
    refine ⟨?_, hper, hpeak, fun _ => rfl⟩
    rw [advanceGrid_position hlt, hpos, hper, Nat.mod_add_mod, Nat.add_assoc]

/-! ## A sample that comes when a boundary is due (assumption log 8) -/

theorem exec_sample (d : Sample) {s : State} (hr : running s) :
    exec (.sample d) s = .next (takeSample d (attempt (settleSamples s))) :=
  whenRunning_acquisition (f := fun s => takeSample d (attempt (settleSamples s))) hr
    ((moves_settleSamples s).trans ((moves_attempt_acquisition _).trans (moves_takeSample d _)))

/-- In TRACK, with no measurement due, the boundary alone is taken before a sample that finds it due. -/
theorem settleSamples_track {s : State} (ha : s.gau.acq = .track) (hm : measurementDue s = false)
    (hd : boundaryDue s.wu = true) : settleSamples s = settleFrameCounts
      (takeBoundary true { s with ib := settleBlanker s.cfg.runEnd s.ib }) := by
  have hmeasure : measureIfDue { s with ib := settleBlanker s.cfg.runEnd s.ib } =
    { s with ib := settleBlanker s.cfg.runEnd s.ib } := if_neg (by rw [Bool.not_eq_true]; exact hm)
  have htrial : endTrialIfDue { s with ib := settleBlanker s.cfg.runEnd s.ib } =
    { s with ib := settleBlanker s.cfg.runEnd s.ib } := if_neg (by simp [trialDue, ha])
  rw [settleSamples, hmeasure, htrial, boundaryEvent_due (noCountDue_track (by exact ha)) (by exact hd)]

theorem countPass_index (s : State) : (countPass s).wu.symbolIndex = s.wu.symbolIndex := by
  unfold countPass
  dsimp only
  split
  · rw [enterSymbol_wu]; rfl
  · rfl

theorem settleFrameCounts_index (s : State) : (settleFrameCounts s).wu.symbolIndex = s.wu.symbolIndex := by
  unfold settleFrameCounts
  split
  · exact countPass_index _
  · split
    · rw [takeHoldLimit, enterSymbol_wu]; rfl
    · rfl

theorem takeSample_index (d : Sample) (s : State) : (takeSample d s).wu.symbolIndex = s.wu.symbolIndex := by
  unfold takeSample; dsimp only; split <;> rfl

/-! ## O18 -/

/-- What a boundary taken first by the window unit leaves of the window is what the window unit's part leaves (R38, R39). -/
theorem takeBoundary_window {f : Bool} {s u : State} (hf : isFrameBoundary s.wu = f)
    (hu : windowBoundary f (counted s) = u) : (takeBoundary true s).wu.applied = u.wu.applied
      ∧ (takeBoundary true s).wu.mark = u.wu.mark ∧ (takeBoundary true s).wu.pendingPos = u.wu.pendingPos
      ∧ takeBoundary true s = blankerBoundary u := by
  have ht : takeBoundary true s = blankerBoundary u := by rw [takeBoundary_windowFirst, hf, hu]
  obtain ⟨n, hw⟩ := blankerBoundary_wu u
  rw [ht, hw]
  exact ⟨rfl, rfl, rfl, rfl⟩

theorem counted_acq (s : State) : (counted s).gau.acq = s.gau.acq := (gauBoundary_keeps s.gau).1

theorem counted_window (s : State) : (counted s).wu.applied = s.wu.applied ∧ (counted s).wu.mark = s.wu.mark
    ∧ (counted s).wu.pendingPos = s.wu.pendingPos ∧ (counted s).wu.erasedCount = s.wu.erasedCount := by
  have h : ∀ wu : Window, (advanceCounters wu).applied = wu.applied ∧ (advanceCounters wu).mark = wu.mark
      ∧ (advanceCounters wu).pendingPos = wu.pendingPos ∧ (advanceCounters wu).erasedCount = wu.erasedCount := by
    intro wu; unfold advanceCounters; split <;> (try split) <;> exact ⟨rfl, rfl, rfl, rfl⟩
  exact h s.wu

/-- Settles O18: a boundary's counters are set before its two parts, and neither part moves them. -/
theorem boundaryAdvancesAndTransfers : Obligations.BoundaryAdvancesAndTransfers := by
  refine ⟨fun _ => boundaryDue_iff, fun n g h => iterate_advanceGrid n h, fun b s hr hd hn hs => ?idle,
    fun d s hr ha hm hd hp hi => ?sample, fun b s hr hn hd hi hc => ?counters, fun s hr ha hd hp => ?window⟩
  case idle => rw [exec_symbolBoundary b hr, boundaryEvent_settled b hn hd, attempt_settled hs]
  case sample =>
    refine ⟨_, exec_sample d hr, ?_⟩
    obtain ⟨-, -, hindex, -⟩ := takeBoundary_timing true { s with ib := settleBlanker s.cfg.runEnd s.ib }
    rw [takeSample_index]
    simp only [attempt_frame]
    rw [settleSamples_track ha hm hd, settleFrameCounts_index, hindex]
    exact advanceCounters_index hp hi
  case counters =>
    refine ⟨_, exec_symbolBoundary b hr, ?_⟩
    obtain ⟨hgrid, hpreset, hindex, hcounter⟩ := takeBoundary_timing b s
    simp only [attempt_frame]
    rw [boundaryEvent_due hn hd, hgrid, hpreset, hindex, hcounter]
    cases hp : s.wu.presetDue with
    | true => rw [advanceCounters_preset hp]; exact ⟨rfl, rfl, fun _ => ⟨rfl, rfl⟩, nofun⟩
    | false => rw [advanceCounters_counts hp hi hc]; exact ⟨rfl, hp, nofun, fun _ => ⟨rfl, rfl⟩⟩
  case window =>
    have hexec : exec (.symbolBoundary true) s = .next (attempt (takeBoundary true s)) := by
      rw [exec_symbolBoundary true hr, boundaryEvent_due (noCountDue_track ha) hd]
    obtain ⟨happlied, hmark, hpending, -⟩ := counted_window s
    have hacq : (counted s).gau.acq = .track := (counted_acq s).trans ha
    refine ⟨fun h => ⟨_, hexec, ?_⟩, fun h h63 => ⟨_, hexec, ?_⟩, fun h hlt => ⟨_, hexec, ?_⟩⟩ <;> simp only [attempt_frame]
    · obtain ⟨ha', hm', -, -⟩ := takeBoundary_window rfl (windowBoundary_step hacq (hmark.trans h))
      exact ⟨ha'.trans hpending, hm'⟩
    · have hframe : isFrameBoundary s.wu = true := by simp [isFrameBoundary, hp, h63]
      obtain ⟨ha', hm', -, ht⟩ := takeBoundary_window hframe (windowBoundary_jump hacq (hmark.trans h))
      rw [reportCause_wu] at ha' hm'
      refine ⟨ha'.trans hpending, hm', ?_⟩
      have hgau := reportCause_gau .windowJump { counted s with wu := transferWindow (counted s).wu }
      rw [if_pos (by exact hacq)] at hgau
      rcases blankerBoundary_gau (s := reportCause .windowJump { counted s with wu := transferWindow (counted s).wu })
        (by rw [hgau]; simp) with hb | hb <;> rw [ht, hb]
      · rw [hgau]; exact ⟨rfl, rfl⟩
      · rw [recordCause_gau, hgau]; exact ⟨rfl, rfl⟩
    · have hframe : isFrameBoundary s.wu = false := by simp [isFrameBoundary]; omega
      obtain ⟨ha', hm', hp', -⟩ := takeBoundary_window hframe (windowBoundary_jumpWaits (hmark.trans h))
      exact ⟨ha'.trans happlied, hm'.trans (hmark.trans h), hp'.trans hpending⟩


/-! ## The verdict on the symbol that ends (R27, R48 to R50, R64, R65) -/

/-- `t` has what the verdict on a symbol reads and writes as `s` has it, and is not in TRACK unless `s` is. -/
structure SameSymbol (s t : State) : Prop where
  ib : t.ib = s.ib
  cfg : t.cfg = s.cfg
  held : t.gau.held = s.gau.held
  erasures : t.wu.erasedCount = s.wu.erasedCount
  slot : t.pru.slot = s.pru.slot
  tallies : t.pru.tallies = s.pru.tallies
  burst : t.gau.causes.erasureBurst = s.gau.causes.erasureBurst
  track : s.gau.acq ≠ .track → t.gau.acq ≠ .track

theorem SameSymbol.refl (s : State) : SameSymbol s s := ⟨rfl, rfl, rfl, rfl, rfl, rfl, rfl, id⟩

theorem SameSymbol.trans {s t u : State} (h : SameSymbol s t) (h' : SameSymbol t u) : SameSymbol s u where
  ib := h'.ib.trans h.ib
  cfg := h'.cfg.trans h.cfg
  held := h'.held.trans h.held
  erasures := h'.erasures.trans h.erasures
  slot := h'.slot.trans h.slot
  tallies := h'.tallies.trans h.tallies
  burst := h'.burst.trans h.burst
  track := h'.track ∘ h.track

theorem sameSymbol_counted (s : State) : SameSymbol s (counted s) where
  ib := rfl
  cfg := rfl
  held := by rw [counted, gauBoundary_eq]
  erasures := (counted_window s).2.2.2
  slot := rfl
  tallies := rfl
  burst := by rw [counted, gauBoundary_eq]
  track := fun h => by rw [counted_acq]; exact h

theorem reportCause_slot (c : Cause) (s : State) :
    (reportCause c s).pru.slot = s.pru.slot ∧ (reportCause c s).pru.tallies = s.pru.tallies := by
  by_cases h : s.gau.acq = .track
  · rw [reportCause_track c h, enterHold_pru]; split <;> exact ⟨rfl, rfl⟩
  · rw [reportCause_other c h]; exact ⟨rfl, rfl⟩

/-- After a report the station is not in TRACK (R15). -/
theorem reportCause_leavesTrack (c : Cause) (s : State) : (reportCause c s).gau.acq ≠ .track := by
  rw [reportCause_gau]
  split
  · exact nofun
  · rename_i h; exact h

theorem sameSymbol_windowBoundary (f : Bool) (s : State) : SameSymbol s (windowBoundary f s) := by
  rcases windowBoundary_cases f s with h | h | ⟨-, h⟩ <;> rw [h]
  · exact .refl s
  · exact ⟨rfl, rfl, rfl, rfl, rfl, rfl, rfl, id⟩
  · obtain ⟨hslot, htallies⟩ := reportCause_slot .windowJump { s with wu := transferWindow s.wu }
    refine ⟨by simp, by simp, ?_, by simp [transferWindow], hslot, htallies, ?_, fun _ => reportCause_leavesTrack _ _⟩
    all_goals rw [reportCause_gau]; split <;> rfl

/-- The blanker judges a state that agrees with the one before the boundary, and nothing after it changes what it has left: the
state differs in TRACK alone, when a jump taken first has brought about HOLD. -/
theorem takeBoundary_judges (b : Bool) (s : State) : ∃ u, SameSymbol s u ∧ SameSymbol (blankerBoundary u) (takeBoundary b s)
    ∧ (b = false ∨ s.wu.mark ≠ .jump → u.gau.acq = s.gau.acq)
    ∧ (b = true → s.gau.acq = .track → s.wu.mark = .jump → isFrameBoundary s.wu = true → u.gau.acq ≠ .track) := by
  obtain ⟨-, hmark, -⟩ := counted_window s
  cases b with
  | false =>
    exact ⟨counted s, sameSymbol_counted s, sameSymbol_windowBoundary _ _, fun _ => counted_acq s, nofun⟩
  | true =>
    refine ⟨windowBoundary (isFrameBoundary s.wu) (counted s),
      (sameSymbol_counted s).trans (sameSymbol_windowBoundary _ _), .refl _, fun h => ?_, fun _ ha hm hf => ?_⟩
    · have hn : s.wu.mark ≠ .jump := h.resolve_left nofun
      rcases windowBoundary_cases (isFrameBoundary s.wu) (counted s) with h | h | ⟨hj, -⟩
      · rw [h, counted_acq]
      · rw [h]; exact counted_acq s
      · exact absurd (hmark.symm.trans hj) hn
    · rw [hf, windowBoundary_jump ((counted_acq s).trans ha) (hmark.trans hm)]
      exact reportCause_leavesTrack _ _

/-! ### A closed symbol -/

theorem completeSlot_half {acq : AcqState} {p : Pru} {e : Bool} (h : p.slot.ahead = false ∨ p.slot.mer = none) :
    completeSlot acq { p with slot := slotVerdict e p.slot } =
      { p with slot := { mer := none, verdict := some e, ahead := false } } := by
  rcases h with h | h <;> simp [completeSlot, slotVerdict, h]

theorem completeSlot_both {acq : AcqState} {p : Pru} {e : Bool} {m : Nat} (ha : p.slot.ahead = true)
    (hm : p.slot.mer = some m) : completeSlot acq { p with slot := slotVerdict e p.slot } =
      { p with slot := .empty, tallies := if acq = .track then tallySymbol m e p.tallies else p.tallies } := by
  simp [completeSlot, slotVerdict, ha, hm]

/-- A closed symbol leaves the slot and the tallies as its verdict does, whatever it reports besides. -/
theorem closeSymbol_slot (e : Bool) (s : State) :
    (closeSymbol e s).pru.slot = (completeSlot s.gau.acq { s.pru with slot := slotVerdict e s.pru.slot }).slot
    ∧ (closeSymbol e s).pru.tallies = (completeSlot s.gau.acq { s.pru with slot := slotVerdict e s.pru.slot }).tallies := by
  rw [closeSymbol_eq]
  split
  · exact reportCause_slot .erasureBurst (symbolClosed e s)
  · exact ⟨rfl, rfl⟩

theorem closeSymbol_run (e : Bool) (s : State) : (closeSymbol e s).ib.blankedCount = 0
    ∧ (closeSymbol e s).ib.burstRun =
      if 8 ≤ burstRunAfter e s.ib.burstRun then 0 else burstRunAfter e s.ib.burstRun := by
  have h : (closeSymbol e s).ib = (symbolClosed e s).ib := by
    rw [closeSymbol_eq]
    split
    · simp
    · rfl
  rw [h]
  exact ⟨rfl, rfl⟩

/-- The eighth erased symbol in a row is reported (R50). -/
theorem closeSymbol_burst {s : State} (h : s.ib.burstRun = 7) :
    closeSymbol true s = reportCause .erasureBurst (symbolClosed true s) := by
  rw [closeSymbol_eq, if_pos (by simp only [burstRunAfter, if_true]; omega)]

/-- Settles O19: `takeBoundary_judges` brings both orders down to the blanker's own part. -/
theorem boundaryJudgesSymbol : Obligations.BoundaryJudgesSymbol := by
  intro b c s hr hn hd hc
  obtain ⟨u, hbefore, hafter, hacq, hjump⟩ := takeBoundary_judges b s
  have hexec : exec (.symbolBoundary b) s = .next (attempt (takeBoundary b s)) := by
    rw [exec_symbolBoundary b hr, boundaryEvent_due hn hd]
  have hheld : u.gau.held = some c := hbefore.held.trans hc
  refine ⟨fun hfirst hrun => ?judged, fun hfirst => ⟨_, hexec, ?_⟩⟩
  case judged =>
    intro limit erased
    have hjudged : blankerBoundary u = closeSymbol erased u := by
      rw [blankerBoundary_judges hheld (by rw [hbefore.ib]; exact hfirst), hbefore.cfg, hbefore.ib]
    rw [hjudged] at hafter
    obtain ⟨hslot, htallies⟩ := closeSymbol_slot erased u
    obtain ⟨hblanked, hburst⟩ := closeSymbol_run erased u
    refine ⟨_, hexec, ?_⟩
    simp only [attempt_frame]
    rw [hafter.ib, hafter.erasures, hafter.slot, hafter.tallies, hafter.burst, closeSymbol_wu, hblanked, hburst, hslot, htallies,
      hbefore.ib, hbefore.erasures]
    refine ⟨rfl, fun hle => ?clean, fun hlt => ?erased, fun h => ?half, fun m ha hm => ?both⟩
    case clean =>
      have he : erased = false := decide_eq_false (Nat.not_lt.mpr hle)
      rw [he]; exact ⟨rfl, rfl⟩
    case erased =>
      have he : erased = true := decide_eq_true hlt
      rw [he] at hafter ⊢
      refine ⟨rfl, fun h7 => ?_, fun h7 => ⟨?_, ?_⟩⟩
      · simp only [burstRunAfter, if_true]; exact if_neg (by omega)
      · simp [burstRunAfter, h7]
      · rw [closeSymbol_burst (by rw [hbefore.ib]; exact h7)] at hafter ⊢
        refine ⟨?_, hafter.track (reportCause_leavesTrack _ _)⟩
        rw [reportCause_gau]; split <;> rfl
    case half =>
      rw [completeSlot_half (by rw [hbefore.slot]; exact h)]
      exact ⟨rfl, hbefore.tallies⟩
    case both =>
      rw [completeSlot_both (by rw [hbefore.slot]; exact ha) (by rw [hbefore.slot]; exact hm), hbefore.tallies]
      refine ⟨rfl, fun ht => if_neg (hbefore.track ht), fun ht hb hj hp hi => ?_, fun ht h => ?_⟩
      · exact if_neg (hjump hb ht hj (by simp [isFrameBoundary, hp, hi]))
      · simp only [(hacq h).trans ht, if_true]
        cases erased <;> rfl
  · have hunjudged := blankerBoundary_first hheld (by rw [hbefore.ib]; exact hfirst)
    rw [hunjudged] at hafter
    simp only [attempt_frame]
    rw [hafter.ib, hafter.erasures, hafter.slot, hafter.tallies, hafter.burst]
    simp only [unjudged, hbefore.ib, hbefore.erasures, hbefore.slot, hbefore.tallies, hbefore.burst, slotBoundary]
    cases s.pru.slot.ahead <;> simp [SymbolSlot.empty]

end Sys2Proof.Machine

/-! # Proofs: sync found and frame checks (R10 to R16, R23, R24) -/

namespace Sys2Proof.Machine

/-! ## Sync found (R10, R11, R23) -/

theorem exec_syncFound (b : Bool) {s : State} (hr : running s) :
    exec (.syncFound b) s = .next (takeSyncFound (boundaryBefore b s)) :=
  whenRunning_acquisition (f := fun s => takeSyncFound (boundaryBefore b s)) hr
    ((moves_boundaryBefore b s).trans (moves_takeSyncFound _))

theorem boundaryBefore_settled {b : Bool} {s : State} (h : b = true → boundaryDue s.wu = false) :
    boundaryBefore b s = s := by
  cases b with
  | false => rfl
  | true => simp [boundaryBefore, h rfl]

theorem boundaryBefore_due {s : State} (h : boundaryDue s.wu = true) :
    boundaryBefore true s = attempt (boundaryEvent true s) := by
  simp [boundaryBefore, h]

/-- A sync word found in SEARCH: the counters are preset and CONFIRM begins with no candidate (R11, R23). -/
def syncTaken (s : State) : State :=
  { s with wu := presetCounters s.wu, gau := { s.gau with subState := .confirm, candidate := none } }

theorem confirmSync_search {s : State} (ha : s.gau.acq = .frame) (hsub : s.gau.subState = .search) :
    confirmSync s = syncTaken s := if_pos ⟨ha, hsub⟩

theorem confirmSync_other {s : State} (h : ¬(s.gau.acq = .frame ∧ s.gau.subState = .search)) : confirmSync s = s := if_neg h

theorem takeSyncFound_other {s : State} (h : ¬(s.gau.acq = .frame ∧ s.gau.subState = .search)) : takeSyncFound s = s := by
  have hp : settlePass s = s := if_neg fun hd => by
    obtain ⟨ha, hsub, -⟩ := passDue_iff.mp hd
    exact h ⟨ha, hsub⟩
  rw [takeSyncFound, hp, confirmSync_other h]

section
variable {s : State} (ha : s.gau.acq = .frame) (hsub : s.gau.subState = .search)
include ha hsub

theorem takeSyncFound_early (hc : s.gau.searchCount < 64) : takeSyncFound s = syncTaken s := by
  have hp : settlePass s = s := if_neg fun hd => by
    obtain ⟨-, -, h64⟩ := passDue_iff.mp hd
    omega
  rw [takeSyncFound, hp, confirmSync_search ha hsub]

/-- A pass still due that is not the third is counted before the report is taken. -/
theorem takeSyncFound_passed (hc : s.gau.searchCount = 64) (hp : s.gau.passCount < 2) : takeSyncFound s =
    syncTaken { s with gau := { s.gau with searchCount := 0, passCount := s.gau.passCount + 1 } } := by
  have hpass : settlePass s = takePass s := if_pos (passDue_iff.mpr ⟨ha, hsub, hc.ge⟩)
  rw [takeSyncFound, hpass, takePass, countPass_counted (by exact hp), confirmSync_search (by exact ha) (by exact hsub)]

/-- A pass still due that is the third enters SYMBOL, where the report is ignored. -/
theorem takeSyncFound_fallen (hc : s.gau.searchCount = 64) (hp : s.gau.passCount = 2) :
    takeSyncFound s = enterSymbol { s with gau := { s.gau with
      searchCount := 0, passCount := s.gau.passCount + 1, fallsFrame := satAdd 255 s.gau.fallsFrame 1 } } := by
  have hpass : settlePass s = takePass s := if_pos (passDue_iff.mpr ⟨ha, hsub, hc.ge⟩)
  rw [takeSyncFound, hpass, takePass, countPass_third (by exact hp.ge), confirmSync_other]
  rw [enterSymbol_gau]
  exact nofun

theorem gauBoundary_search : gauBoundary s.gau = { s.gau with searchCount := s.gau.searchCount + 1 } := by
  simp [gauBoundary, ha, hsub]

/-- A boundary in SEARCH raises the search count; beside it the GAU takes at most a report. -/
theorem takeBoundary_search : ∃ causes carried, (takeBoundary true s).gau =
    { s.gau with searchCount := s.gau.searchCount + 1, causes := causes, carried := carried } := by
  have htrack : (counted s).gau.acq ≠ .track := by rw [counted_acq, ha]; exact nofun
  have hcounted : (counted s).gau = { s.gau with searchCount := s.gau.searchCount + 1 } := gauBoundary_search ha hsub
  rw [takeBoundary_windowFirst, windowBoundary_other htrack]
  rcases blankerBoundary_gau htrack with h | h <;> rw [h]
  · exact ⟨_, _, hcounted⟩
  · rw [recordCause_gau, hcounted]; exact ⟨_, _, rfl⟩

end

theorem boundaryDue_of_grid {wu wu' : Window} (h : wu'.grid = wu.grid) : boundaryDue wu' = boundaryDue wu := by
  simp [boundaryDue, h]

/-- After a boundary none is due (R21). -/
theorem takeBoundary_notDue (b : Bool) (s : State) : boundaryDue (takeBoundary b s).wu = false := by
  obtain ⟨hgrid, -⟩ := takeBoundary_timing b s
  rw [boundaryDue_of_grid hgrid]
  exact boundaryDue_markBoundary _

theorem running_boundary {b : Bool} {s : State} (hr : running s) : running (attempt (boundaryEvent b s)) := by
  have h := ((moves_boundaryEvent b s).trans (moves_attempt_acquisition _)).changesOnly
  obtain ⟨-, -, hreset, -⟩ := id h
  exact ⟨hreset.trans hr.1, (h.same waiting_notMem_acquisition).trans hr.2⟩

/-! ## Frame checks (R12 to R16) -/

theorem exec_frameCheck (r : FrameReport) {s : State} (hr : running s) :
    exec (.frameCheck r) s = .next (attempt (takeFrameCheck r s)) :=
  whenRunning_acquisition (f := fun s => attempt (takeFrameCheck r s)) hr
    ((moves_takeFrameCheck r s).trans (moves_attempt_acquisition _))

theorem takeFrameCheck_confirm {r : FrameReport} {s : State} (ha : s.gau.acq = .frame) (hsub : s.gau.subState = .confirm) :
    takeFrameCheck r s = checkInConfirm r s := by
  simp [takeFrameCheck, ha, hsub]

theorem takeFrameCheck_track {r : FrameReport} {s : State} (ha : s.gau.acq = .track) :
    takeFrameCheck r s = checkInTrack r s := by
  simp [takeFrameCheck, ha]

theorem takeFrameCheck_hold {r : FrameReport} {s : State} (ha : s.gau.acq = .hold) :
    takeFrameCheck r s = checkInHold r s := by
  simp [takeFrameCheck, ha]

/-- What a report that does not agree leaves of the candidate and the sub-state (R12). -/
def disagreed (r : FrameReport) (g : Gau) : Gau :=
  if r.syncPresent then { g with candidate := r.signalling }
  else { g with candidate := none, subState := .search, searchCount := 0 }

/-- A report that does not agree with the candidate counts a pass (R12). -/
theorem checkInConfirm_disagrees {r : FrameReport} {s : State}
    (h : r.syncPresent = true → r.signalling = none ∨ r.signalling ≠ s.gau.candidate) :
    checkInConfirm r s = countPass { s with gau := disagreed r s.gau } := by
  obtain ⟨sync, sig⟩ := r
  cases sync with
  | false => rfl
  | true =>
    cases sig with
    | none => rfl
    | some g =>
      have hne : s.gau.candidate ≠ some g := ((h rfl).resolve_left nofun).symm
      exact if_neg hne

theorem checkInConfirm_agrees {g : Signalling} {s : State} (h : s.gau.candidate = some g) :
    checkInConfirm ⟨true, some g⟩ s = enterTrack (some g) s := if_pos h

theorem checkInTrack_agrees {g : Signalling} {s : State} (h : s.gau.current = some g) :
    checkInTrack ⟨true, some g⟩ s = { s with gau := { s.gau with syncMissRun := 0 } } := if_pos h

/-- In TRACK and in HOLD changed signalling goes one way (R13, R14, R16). -/
theorem takeFrameCheck_changed {g : Signalling} {s : State} (ha : s.gau.acq = .track ∨ s.gau.acq = .hold)
    (h : s.gau.current ≠ some g) : takeFrameCheck ⟨true, some g⟩ s = signallingChanged g s := by
  rcases ha with ha | ha
  · rw [takeFrameCheck_track ha]; exact if_neg h
  · rw [takeFrameCheck_hold ha]; exact if_neg h

theorem checkInTrack_firstMiss {r : Option Signalling} {s : State} (h : s.gau.syncMissRun = 0) :
    checkInTrack ⟨false, r⟩ s = { s with gau := { s.gau with syncMissRun := 1 } } := by
  simp [checkInTrack, h]

theorem checkInTrack_secondMiss {r : Option Signalling} {s : State} (h : s.gau.syncMissRun = 1) :
    checkInTrack ⟨false, r⟩ s = enterHold (recordCause .frameLost { s with gau := { s.gau with syncMissRun := 0 } }) := by
  simp [checkInTrack, h]

theorem checkInHold_returns {r : FrameReport} {s : State} (hp : r.syncPresent = true)
    (h : r.signalling = none ∨ r.signalling = s.gau.current) : checkInHold r s = enterTrack s.gau.current s := by
  obtain ⟨sync, sig⟩ := r
  cases hp
  cases sig with
  | none => rfl
  | some g => exact if_pos (h.resolve_left nofun).symm

/-! ## O17 -/

/-- R10, R11, R23: a sync-found report with no boundary to take first. -/
theorem syncFound_alone (b : Bool) (s : State) (hr : running s) (hb : b = true → boundaryDue s.wu = false) :
    exec (.syncFound b) s = .next (takeSyncFound s) := by
  rw [exec_syncFound b hr, boundaryBefore_settled hb]

/-- R11: the boundary that ends the 64 and the report come together. -/
theorem syncFound_atBoundary {s : State} (hr : running s) (ha : s.gau.acq = .frame) (hsub : s.gau.subState = .search)
    (hd : boundaryDue s.wu = true) (hc : s.gau.searchCount = 63) :
    ∃ u, exec (.symbolBoundary true) s = .next u ∧ exec (.syncFound true) s = .next (takeSyncFound u)
      ∧ running u ∧ boundaryDue u.wu = false ∧ u.gau.acq = .frame ∧ u.gau.subState = .search ∧ u.gau.searchCount = 64
      ∧ u.gau.passCount = s.gau.passCount ∧ u.gau.fallsFrame = s.gau.fallsFrame := by
  have hn : noCountDue s := by simp [noCountDue, passDue, holdLimitDue, ha, hc]
  obtain ⟨causes, carried, hgau⟩ := takeBoundary_search ha hsub
  refine ⟨attempt (boundaryEvent true s), exec_symbolBoundary true hr, ?_, running_boundary hr, ?_⟩
  · rw [exec_syncFound true hr, boundaryBefore_due hd]
  · simp only [attempt_frame]
    rw [boundaryEvent_due hn hd, hgau]
    exact ⟨takeBoundary_notDue true s, ha, hsub, congrArg (· + 1) hc, rfl, rfl⟩

/-- Settles O17, report by report and state by state. -/
theorem signallingReportsMoveAcquisition : Obligations.SignallingReportsMoveAcquisition := by
  refine ⟨fun b s hr hb => ?sync, fun s hr ha hsub hd hc => ?together, fun r s hr ha hsub hdis => ?confirm,
    fun g s hr => ?check, fun r s hr ha => ?hold⟩
  case sync =>
    rw [syncFound_alone b s hr hb]
    refine ⟨fun ha hsub hc => ?_, fun ha hsub hc hp => ?_, fun ha hsub hc hp => ⟨_, rfl, ?_⟩, fun h => ?_⟩
    · rw [takeSyncFound_early ha hsub hc]; rfl
    · rw [takeSyncFound_passed ha hsub hc hp]; rfl
    · rw [takeSyncFound_fallen ha hsub hc hp, enterSymbol_gau, enterSymbol_wu]; exact ⟨rfl, rfl, rfl, rfl⟩
    · rw [takeSyncFound_other h]
  case together =>
    obtain ⟨u, hboundary, hsync, hu, hdue, hua, husub, huc, hup, huf⟩ := syncFound_atBoundary hr ha hsub hd hc
    refine ⟨fun t ht => ?_, fun hp => ⟨_, hsync, ?_⟩, fun hp => ⟨_, hsync, ?_⟩,
      ⟨_, syncFound_alone false s hr nofun, ?_⟩⟩
    · obtain rfl : u = t := Host.Outcome.next.inj (hboundary.symm.trans ht)
      rw [hsync, syncFound_alone false u hu nofun]
    · rw [takeSyncFound_passed hua husub huc (by rw [hup]; exact hp)]
      exact ⟨hua, rfl, congrArg (· + 1) hup, rfl, rfl, hdue⟩
    · rw [takeSyncFound_fallen hua husub huc (hup.trans hp), enterSymbol_gau, ← huf]
      exact ⟨rfl, rfl⟩
    · rw [takeSyncFound_early ha hsub (by omega)]
      exact ⟨ha, rfl, rfl, rfl, hd⟩
  case confirm =>
    rw [exec_frameCheck r hr, takeFrameCheck_confirm ha hsub, checkInConfirm_disagrees hdis]
    have hpass : (disagreed r s.gau).passCount = s.gau.passCount := by unfold disagreed; split <;> rfl
    have hfalls : (disagreed r s.gau).fallsFrame = s.gau.fallsFrame := by unfold disagreed; split <;> rfl
    refine ⟨fun hp hs => ?_, fun hp => ⟨_, rfl, ?_⟩⟩
    · rw [countPass_counted (by exact hpass ▸ hp), attempt_settled (attemptSettled_of_same hs (by rfl) (by rfl) (by rfl))]
      unfold disagreed; split <;> rfl
    · simp only [attempt_frame]
      rw [countPass_third (by exact hpass ▸ hp.ge), enterSymbol_gau, enterSymbol_wu, ← hfalls]
      exact ⟨rfl, rfl, rfl, rfl⟩
  case check =>
    refine ⟨fun ha hsub hc => ⟨_, exec_frameCheck _ hr, ?_⟩, fun ha hc hs => ?_, fun ha hs => ?_, fun ha h0 hs r => ?_,
      fun ha h1 r => ⟨_, exec_frameCheck _ hr, ?_⟩, fun ha hc => ⟨_, exec_frameCheck _ hr, ?_⟩⟩
    · rw [takeFrameCheck_confirm ha hsub, checkInConfirm_agrees hc]
      simp only [attempt_frame]
      rw [enterTrack_gau, enterTrack_pru]
      exact ⟨rfl, rfl, rfl, rfl, rfl, rfl⟩
    · rw [exec_frameCheck _ hr, takeFrameCheck_track ha, checkInTrack_agrees hc,
        attempt_settled (attemptSettled_of_same hs (by rfl) (by rfl) (by rfl))]
    · rw [exec_frameCheck _ hr, takeFrameCheck_track ha]
      exact congrArg _ (attempt_settled (attemptSettled_of_same hs rfl rfl rfl))
    · rw [exec_frameCheck _ hr, takeFrameCheck_track ha, checkInTrack_firstMiss h0,
        attempt_settled (attemptSettled_of_same hs (by rfl) (by rfl) (by rfl))]
    · rw [takeFrameCheck_track ha, checkInTrack_secondMiss h1]
      simp only [attempt_frame]
      rw [enterHold_gau, enterHold_pru, if_pos (by exact ha)]
      exact ⟨rfl, rfl, rfl, rfl, rfl, rfl⟩
    · rw [takeFrameCheck_changed ha hc, signallingChanged]
      simp only [attempt_frame]
      rw [enterFrameConfirm_gau, enterFrameConfirm_pru]
      refine ⟨rfl, rfl, rfl, rfl, rfl, rfl, rfl, fun ht => ?_⟩
      rw [if_pos (by exact ht)]
      exact ⟨rfl, rfl⟩
  case hold =>
    refine ⟨fun hp hsig => ⟨_, exec_frameCheck r hr, ?_⟩, fun hp hs => ?_⟩
    · rw [takeFrameCheck_hold ha, checkInHold_returns hp hsig]
      simp only [attempt_frame]
      rw [enterTrack_gau, enterTrack_pru]
      exact ⟨rfl, rfl, rfl, rfl, rfl⟩
    · have hmiss : checkInHold r s = s := if_neg (by rw [hp]; exact nofun)
      rw [exec_frameCheck r hr, takeFrameCheck_hold ha, hmiss, attempt_settled hs]

end Sys2Proof.Machine

/-! # Proofs: a sample's verdict (R44 to R48, R51 to R56) -/

namespace Sys2Proof.Machine

/-! ## The threshold and the miss in the rules' own words -/

theorem windowOpen_armed {period anchor t : Stamp} {misses : Nat} : windowOpen (.armed period anchor misses) t = true ↔
    (t - (anchor + period) + 64#32).toNat ≤ 128 := decide_eq_true_iff

theorem aboveThreshold_measured {k energy count : Nat} {l : Bool} {d : Sample} :
    aboveThreshold k l (.measured energy count) d = true ↔
      k ^ 2 * energy < ((if l then 16 else 8) * d.toInt.natAbs) ^ 2 * count := by
  rw [Nat.mul_comm (if l then 16 else 8)]
  exact decide_eq_true_iff

theorem aboveThreshold_target {k : Nat} {l : Bool} {d : Sample} : aboveThreshold k l .target d = true ↔
    k ^ 4 * 2048 ^ 4 < ((if l then 16 else 8) * d.toInt.natAbs) ^ 4 * 1000 := by
  rw [Nat.mul_comm (if l then 16 else 8)]
  exact decide_eq_true_iff

theorem missAhead_iff {ib : Blanker} : missAhead ib = true ↔ ib.miss ≠ .taken
    ∧ ∃ period anchor misses, ib.prediction = .armed period anchor misses ∧ ib.stamp = anchor + period + 65#32 := by
  cases hp : ib.prediction with
  | unarmed => simp [missAhead, predictedStart, hp]
  | armed period anchor misses =>
    simp only [missAhead, predictedStart, hp, Bool.and_eq_true, decide_eq_true_eq]
    constructor
    · rintro ⟨hs, hm⟩; exact ⟨hm, _, _, _, rfl, hs⟩
    · rintro ⟨hm, _, _, _, h, hs⟩; cases h; exact ⟨hs, hm⟩

/-! ## The verdict -/

/-- The sample meets the threshold in force (R45, R52). -/
def exceeds (d : Sample) (s : State) : Bool :=
  aboveThreshold s.cfg.impulseThreshold (windowOpen s.ib.prediction s.ib.stamp) s.gau.rms d

/-- What an impulse leaves of the blanker: a run begun, and an event in the history (R46, R51, R53, R54). -/
def runStarted (ib : Blanker) : Blanker :=
  { ib with
    runState := .blanking, quietCount := 0, runLength := 1, history := pushHistory ib.stamp ib.history
    prediction := predictionAfterEvent ib.stamp (pushHistory ib.stamp ib.history) ib.prediction }

/-- What a sample of a run leaves of the blanker (R46). -/
def runContinued (above : Bool) (ib : Blanker) : Blanker :=
  { ib with quietCount := if above then 0 else ib.quietCount + 1, runLength := ib.runLength + 1 }

/-- What every sample taken leaves of the blanker beside its verdict (R44, R48, R55). -/
def sampleTaken (zeroed : Bool) (d : Sample) (held : Option Candidate) (ib j : Blanker) : Blanker :=
  { j with
    stamp := ib.stamp + 1#32
    out := if zeroed then 0#12 else d
    miss := if missAhead ib then .owed else .none
    blankedCount :=
      match held with
      | none => ib.blankedCount
      | some c => if zeroed then satAdd (symbolLength c) ib.blankedCount 1 else ib.blankedCount }

theorem judged_eq (d : Sample) (s : State) {z : Bool} {j : Blanker}
    (h : judgeSample s.cfg.impulseThreshold s.gau.rms d s.ib = (z, j)) :
    judged d s = (z, sampleTaken z d s.gau.held s.ib j) := by
  rw [judged, blankSample, h]; rfl

/-- A blanking run takes the sample (R46, R47). -/
def blanks (d : Sample) (s : State) : Prop := s.ib.suspended = false ∧ (exceeds d s = true ∨ s.ib.runState = .blanking)

theorem judged_passes {d : Sample} {s : State} (h : ¬blanks d s) :
    judged d s = (false, sampleTaken false d s.gau.held s.ib s.ib) := by
  apply judged_eq
  cases hs : s.ib.suspended with
  | true => simp [judgeSample, hs]
  | false =>
    have ha : ¬exceeds d s = true := fun ha => h ⟨hs, .inl ha⟩
    cases hr : s.ib.runState with
    | quiet => simpa [judgeSample, hs, hr, exceeds] using ha
    | blanking => exact absurd ⟨hs, .inr hr⟩ h

theorem judged_starts {d : Sample} {s : State} (h : blanks d s) (hr : s.ib.runState = .quiet) :
    judged d s = (true, sampleTaken true d s.gau.held s.ib (runStarted s.ib)) := by
  obtain ⟨hs, ha⟩ := h
  have above : exceeds d s = true := ha.resolve_right (by rw [hr]; exact nofun)
  apply judged_eq
  rw [exceeds] at above
  simp [judgeSample, hs, hr, above, runStarted]

theorem judged_continues {d : Sample} {s : State} (h : blanks d s) (hr : s.ib.runState = .blanking) :
    judged d s = (true, sampleTaken true d s.gau.held s.ib (runContinued (exceeds d s) s.ib)) := by
  obtain ⟨hs, -⟩ := h
  apply judged_eq
  simp only [judgeSample, hs, hr, runContinued, Bool.false_eq_true, if_false]
  rfl

/-- What a sample leaves of the gain block (R2). -/
theorem gauSample_block (b : Bool) (d : Sample) (g : Gau) : (gauSample b d g).rms = g.rms
    ∧ (gauSample b d g).blockCount = g.blockCount + 1
    ∧ (gauSample b d g).blockBlanked = (if b then g.blockBlanked + 1 else g.blockBlanked)
    ∧ (gauSample b d g).blockEnergy = if b then g.blockEnergy else g.blockEnergy + d.toInt.natAbs ^ 2 := by
  unfold gauSample blockSample
  dsimp only
  split <;> exact ⟨rfl, rfl, rfl, rfl⟩

/-- Every blanked sample of a held symbol is counted, up to the symbol's length (R48). -/
theorem sampleTaken_blanked {d : Sample} {held : Option Candidate} {ib j : Blanker} {c : Candidate} (hc : held = some c)
    (h : ib.blankedCount < symbolLength c) : (sampleTaken true d held ib j).blankedCount = ib.blankedCount + 1 := by
  subst hc
  exact Nat.min_eq_right h

/-- A sample passed counts nothing (R48). -/
theorem sampleTaken_passed (d : Sample) (held : Option Candidate) (ib : Blanker) : sampleTaken false d held ib ib =
    { ib with stamp := ib.stamp + 1#32, out := d, miss := if missAhead ib then .owed else .none } := by
  cases held <;> rfl

theorem takeSample_blocks (d : Sample) (s : State) : takeSample d s = { s with
    ib := (takeSample d s).ib, gau := (takeSample d s).gau, wu := (takeSample d s).wu } := by
  unfold takeSample; dsimp only; split <;> rfl

theorem judged_stamp (d : Sample) (s : State) : (judged d s).2.stamp = s.ib.stamp + 1#32 := rfl

/-- Settles O9: the verdict by the three cases of `judged`, and the rules' threshold and miss by their own lemmas. -/
theorem sampleJudgedAgainstThreshold : Obligations.SampleJudgedAgainstThreshold := by
  intro d s hr hn k m divisor above history runs missed
  have hdivisor : (if windowOpen s.ib.prediction s.ib.stamp then 16 else 8) = divisor := by
    cases hp : s.ib.prediction with
    | unarmed => simp [divisor, hp, windowOpen, predictedStart]
    | armed period anchor misses => simp [divisor, hp, windowOpen_armed]
  have habove : exceeds d s = true ↔ above := by
    cases hrms : s.gau.rms with
    | measured energy count => simp only [exceeds, above, hrms, aboveThreshold_measured, hdivisor, k, m]
    | target => simp only [exceeds, above, hrms, aboveThreshold_target, hdivisor, k, m]
  have hruns : runs ↔ blanks d s := by simp only [runs, blanks, habove]
  have hmissed : missed ↔ missAhead s.ib = true := missAhead_iff.symm
  refine ⟨_, exec_sample_settled d hr hn, takeSample_blocks d s, ?stamp, fun hi => takeSample_idle d hi, fun ha => ?active⟩
  case stamp =>
    by_cases hi : s.gau.acq = .idle
    · rw [takeSample_idle d hi]; rfl
    · rw [takeSample_active d hi]; exact judged_stamp d s
  case active =>
    obtain ⟨hrms, hcount, hblanked, henergy⟩ := gauSample_block (judged d s).1 (judged d s).2.out s.gau
    obtain ⟨hacq, -⟩ := gauSample_keeps (judged d s).1 (judged d s).2.out s.gau
    rw [takeSample_active d ha]
    refine ⟨rfl, hacq, hrms, hcount, fun h => ?blank, fun h hq => ?start, fun h hb => ?goOn, fun h => ?_, fun h => ?_,
      fun h => ?pass⟩
    case blank =>
      have hj : ∃ j, judged d s = (true, sampleTaken true d s.gau.held s.ib j) ∧ j.suspended = s.ib.suspended
          ∧ j.runState = .blanking := by
        cases hq : s.ib.runState with
        | quiet => exact ⟨_, judged_starts (hruns.mp h) hq, rfl, rfl⟩
        | blanking => exact ⟨_, judged_continues (hruns.mp h) hq, rfl, hq⟩
      obtain ⟨j, hj, hsuspended, hrun⟩ := hj
      rw [hj] at hblanked henergy ⊢
      exact ⟨rfl, hblanked, henergy, hsuspended.trans h.1, hrun, fun c hc hlt => sampleTaken_blanked hc hlt⟩
    case start =>
      rw [judged_starts (hruns.mp h) hq]; exact ⟨rfl, rfl, rfl, rfl⟩
    case goOn =>
      rw [judged_continues (hruns.mp h) hb]
      refine ⟨rfl, rfl, rfl, fun hab => ?_, fun hab => ?_⟩
      · exact if_pos (habove.mpr hab)
      · exact if_neg fun he => hab (habove.mp he)
    case pass =>
      rw [judged_passes fun hb => h (hruns.mpr hb), sampleTaken_passed] at hblanked henergy ⊢
      exact ⟨rfl, hblanked, henergy⟩
    · exact if_pos (hmissed.mp h)
    · exact if_neg fun hm => h (hmissed.mpr hm)

end Sys2Proof.Machine

/-! # Proofs: the merge of a profile update (R25 to R33) -/

namespace Sys2Proof.Machine

/-! ## The first best element by two figures -/

/-- The order by a first figure, then by a second. -/
def lessBy {α : Type} (f : α → Nat) (g : α → Int) (a b : α) : Bool := decide (f a < f b ∨ (f a = f b ∧ g a < g b))

theorem lessBy_false_iff {α : Type} {f : α → Nat} {g : α → Int} {a b : α} :
    lessBy f g a b = false ↔ f b < f a ∨ (f b = f a ∧ g b ≤ g a) := by
  rw [lessBy, decide_eq_false_iff_not]; omega

/-- No element has less of the first figure than the one found, nor as little and less of the second. -/
theorem bestOf_lessBy {α : Type} {f : α → Nat} {g : α → Int} {l : List α} {b : α} (h : bestOf (lessBy f g) l = some b) :
    ∀ x ∈ l, f b < f x ∨ (f b = f x ∧ g b ≤ g x) := by
  refine fun x hx => lessBy_false_iff.mp (bestOf_spec (fun a b hab => ?_) (fun a b c hab hbc => ?_) h x hx)
  · have := of_decide_eq_true hab
    rw [lessBy_false_iff]; omega
  · rw [lessBy_false_iff] at *; omega

/-! ## The entry a peak matches (R28) -/

theorem matchOf_eq (paths : List Path) (delay : Int) : matchOf paths delay =
    bestOf (lessBy (fun e => delayDistance e.delay delay) Path.delay)
      (paths.filter fun e => decide (delayDistance e.delay delay ≤ 4)) := rfl

/-- A peak matches no entry exactly when it lies more than 4 ES from each. -/
theorem matchOf_eq_none {paths : List Path} {delay : Int} : matchOf paths delay = none ↔ apart delay paths := by
  rw [matchOf_eq, bestOf_eq_none]
  simp only [List.filter_eq_nil_iff, decide_eq_true_iff, Nat.not_le]
  rfl

/-- The entry matched lies within 4 ES and no entry is nearer, nor one as near earlier. -/
theorem matchOf_some {paths : List Path} {delay : Int} {e : Path} (h : matchOf paths delay = some e) :
    e ∈ paths ∧ delayDistance e.delay delay ≤ 4 ∧ ∀ x ∈ paths, delayDistance e.delay delay < delayDistance x.delay delay
      ∨ (delayDistance e.delay delay = delayDistance x.delay delay ∧ e.delay ≤ x.delay) := by
  rw [matchOf_eq] at h
  obtain ⟨hmem, hnear⟩ := List.mem_filter.mp (bestOf_mem h)
  have hnear : delayDistance e.delay delay ≤ 4 := of_decide_eq_true hnear
  refine ⟨hmem, hnear, fun x hx => ?_⟩
  by_cases hx4 : delayDistance x.delay delay ≤ 4
  · exact bestOf_lessBy h x (List.mem_filter.mpr ⟨hx, decide_eq_true hx4⟩)
  · omega

/-! ## The peak an entry keeps (R28) -/

theorem keptPeak_some {paths : List Path} {peaks : List Peak} {e : Path} {p : Peak} (h : keptPeak paths peaks e = some p) :
    p ∈ peaks ∧ ∃ m, matchOf paths p.delay = some m ∧ m.delay = e.delay := by
  obtain ⟨hmem, hmatch⟩ := List.mem_filter.mp (bestOf_mem h)
  exact ⟨hmem, Option.map_eq_some_iff.mp (of_decide_eq_true hmatch)⟩

/-- An entry not seen in the update. -/
def unseen (e : Path) : Tracked := { path := e, seen := false }

/-- An entry updated by its peak (R29). -/
def taken (p : Peak) (e : Path) : Tracked :=
  { path := { delay := p.delay, power := (3 * e.power + p.power.val) / 4, state := .confirmed, age := 0 }, seen := true }

/-- A peak inserted as NEW (R31). -/
def inserted (p : Peak) : Tracked :=
  { path := { delay := p.delay, power := p.power.val, state := .new, age := 0 }, seen := true }

theorem updateEntry_none {paths : List Path} {peaks : List Peak} {e : Path} (h : keptPeak paths peaks e = none) :
    updateEntry paths peaks e = unseen e := by simp [updateEntry, h, unseen]

theorem updateEntry_some {paths : List Path} {peaks : List Peak} {e : Path} {p : Peak}
    (h : keptPeak paths peaks e = some p) : updateEntry paths peaks e = taken p e := by simp [updateEntry, h, taken]

/-- An entry stays as it is, or takes a peak within 4 ES that is no nearer to any other entry. -/
theorem updateEntry_cases (paths : List Path) (peaks : List Peak) (e : Path) : updateEntry paths peaks e = unseen e
    ∨ ∃ p ∈ peaks, updateEntry paths peaks e = taken p e ∧ delayDistance e.delay p.delay ≤ 4
      ∧ ∀ x ∈ paths, delayDistance e.delay p.delay < delayDistance x.delay p.delay
        ∨ (delayDistance e.delay p.delay = delayDistance x.delay p.delay ∧ e.delay ≤ x.delay) := by
  cases h : keptPeak paths peaks e with
  | none => exact .inl (updateEntry_none h)
  | some p =>
    obtain ⟨hp, m, hm, hd⟩ := keptPeak_some h
    obtain ⟨-, hnear, hbest⟩ := matchOf_some hm
    rw [hd] at hnear hbest
    exact .inr ⟨p, hp, updateEntry_some h, hnear, hbest⟩

/-! ## Updating keeps the order (R25, R29) -/

/-- The delays of the entries rise. -/
def rising (l : List Tracked) : Prop := l.Pairwise fun a b => a.path.delay < b.path.delay

/-- The path list the entries stand for. -/
def pathsOf (l : List Tracked) : List Path := l.map Tracked.path

theorem spaced_pathsOf {l : List Tracked} :
    spaced (pathsOf l) ↔ l.Pairwise fun a b => a.path.delay + 5 ≤ b.path.delay := List.pairwise_map

/-- Two entries at least 5 ES apart take peaks in their own order: the earlier's lies on its side of the middle. -/
theorem rising_update {paths : List Path} (peaks : List Peak) (h : spaced paths) :
    rising (paths.map (updateEntry paths peaks)) := by
  refine List.pairwise_map.mpr (List.Pairwise.imp_of_mem (fun {a b} ha hb hab => ?_) h)
  rcases updateEntry_cases paths peaks a with hu | ⟨p, -, hu, hp, hpbest⟩ <;>
    rcases updateEntry_cases paths peaks b with hv | ⟨q, -, hv, hq, hqbest⟩ <;> rw [hu, hv]
  all_goals
    simp only [unseen, taken, delayDistance] at *
  · omega
  · omega
  · omega
  · have hpb := hpbest b hb
    have hqa := hqbest a ha
    omega

theorem pathInRange_update {paths : List Path} {peaks : List Peak} (hp : ∀ p ∈ peaks, -2048 ≤ p.delay ∧ p.delay ≤ 6143)
    {e : Path} (he : pathInRange e) : pathInRange (updateEntry paths peaks e).path := by
  rcases updateEntry_cases paths peaks e with hu | ⟨p, hmem, hu, -, -⟩ <;> rw [hu]
  · exact he
  · obtain ⟨hlo, hhi⟩ := hp p hmem
    obtain ⟨-, -, hpower, -⟩ := he
    have := p.power.isLt
    exact ⟨hlo, hhi, by simp only [taken]; omega, Nat.zero_le 8⟩

/-! ## Merging neighbours (R30) -/

theorem mergePair_delay (a b : Path) : (mergePair a b).delay = a.delay ∨ (mergePair a b).delay = b.delay := by
  simp only [mergePair]; split <;> simp

theorem mergePair_inRange {a b : Path} (ha : pathInRange a) (hb : pathInRange b) : pathInRange (mergePair a b) := by
  obtain ⟨halo, hahi, -, -⟩ := ha
  obtain ⟨hblo, hbhi, -, -⟩ := hb
  have hd := mergePair_delay a b
  exact ⟨by omega, by omega, Nat.min_le_left .., Nat.zero_le 8⟩

/-- Merging from an entry on leaves no entry before it, and none less than 5 ES from the next. -/
theorem mergeFrom_spaced {l : List Tracked} {cur : Tracked} (h : rising (cur :: l)) :
    spaced (pathsOf (mergeFrom cur l)) ∧ ∀ x ∈ mergeFrom cur l, cur.path.delay ≤ x.path.delay := by
  rw [spaced_pathsOf]
  induction l generalizing cur with
  | nil => simp [mergeFrom]
  | cons next rest ih =>
    obtain ⟨hcur, hnext⟩ := List.pairwise_cons.mp h
    obtain ⟨hafter, hrest⟩ := List.pairwise_cons.mp hnext
    have hlt := hcur next List.mem_cons_self
    unfold mergeFrom
    split
    · have hd := mergePair_delay cur.path next.path
      have hmerged := ih (cur := { path := mergePair cur.path next.path, seen := true })
        (List.pairwise_cons.mpr ⟨fun x hx => by have := hafter x hx; simp only; omega, hrest⟩)
      exact ⟨hmerged.1, fun x hx => by have := hmerged.2 x hx; simp only at this; omega⟩
    · obtain ⟨hspaced, hle⟩ := ih hnext
      refine ⟨List.pairwise_cons.mpr ⟨fun x hx => ?_, hspaced⟩, fun x hx => ?_⟩
      · have := hle x hx; omega
      · rcases List.mem_cons.mp hx with rfl | hx
        · exact le_refl _
        · have := hle x hx; omega

theorem mergeFrom_length (cur : Tracked) (l : List Tracked) : (mergeFrom cur l).length ≤ l.length + 1 := by
  induction l generalizing cur with
  | nil => simp [mergeFrom]
  | cons next rest ih =>
    unfold mergeFrom
    split
    · have := ih { path := mergePair cur.path next.path, seen := true }
      simp only [List.length_cons]; omega
    · have := ih next
      simp only [List.length_cons]; omega

theorem mergeFrom_inRange {l : List Tracked} {cur : Tracked} (h : ∀ x ∈ cur :: l, pathInRange x.path) :
    ∀ x ∈ mergeFrom cur l, pathInRange x.path := by
  induction l generalizing cur with
  | nil => exact h
  | cons next rest ih =>
    obtain ⟨hcur, hnext⟩ := List.forall_mem_cons.mp h
    obtain ⟨hn, hrest⟩ := List.forall_mem_cons.mp hnext
    unfold mergeFrom
    split
    · exact ih (List.forall_mem_cons.mpr ⟨mergePair_inRange hcur hn, hrest⟩)
    · exact List.forall_mem_cons.mpr ⟨hcur, ih hnext⟩

theorem pathsSound_pathsOf {l : List Tracked} :
    pathsSound (pathsOf l) ↔ l.length ≤ 8 ∧ spaced (pathsOf l) ∧ ∀ e ∈ l, pathInRange e.path := by
  simp [pathsSound, pathsOf]

/-- Updating and merging neighbours leave a sound list (R25, R29, R30). -/
theorem pathsSound_merged {paths : List Path} {peaks : List Peak}
    (hp : ∀ p ∈ peaks, -2048 ≤ p.delay ∧ p.delay ≤ 6143) (h : pathsSound paths) :
    pathsSound (pathsOf (mergeNeighbours (paths.map (updateEntry paths peaks)))) := by
  obtain ⟨hlen, hspaced, hrange⟩ := h
  have hrising := rising_update peaks hspaced
  have hin : ∀ x ∈ paths.map (updateEntry paths peaks), pathInRange x.path :=
    List.forall_mem_map.mpr fun e he => pathInRange_update hp (hrange e he)
  have hcount : (paths.map (updateEntry paths peaks)).length ≤ 8 := by rwa [List.length_map]
  rw [pathsSound_pathsOf]
  cases hl : paths.map (updateEntry paths peaks) with
  | nil => exact ⟨Nat.zero_le 8, .nil, nofun⟩
  | cons cur l =>
    rw [hl] at hrising hin hcount
    have := mergeFrom_length cur l
    obtain ⟨hspaced, -⟩ := mergeFrom_spaced hrising
    exact ⟨by simp only [mergeNeighbours, List.length_cons] at *; omega, hspaced, mergeFrom_inRange hin⟩

/-! ## Inserting a peak (R31, R32) -/

/-- In a spaced list, every entry away from a delay stands before it or after it. -/
theorem exists_split_at {l : List Tracked} {delay : Int} (hs : spaced (pathsOf l)) (ha : apart delay (pathsOf l)) :
    ∃ before after, l = before ++ after ∧ (∀ x ∈ before, x.path.delay < delay) ∧ ∀ x ∈ after, delay < x.path.delay := by
  induction l with
  | nil => exact ⟨[], [], rfl, nofun, nofun⟩
  | cons x l ih =>
    obtain ⟨hx, hl⟩ := List.pairwise_cons.mp hs
    obtain ⟨hxa, hla⟩ := List.forall_mem_cons.mp ha
    by_cases hlt : x.path.delay < delay
    · obtain ⟨before, after, rfl, hb, hf⟩ := ih hl hla
      exact ⟨x :: before, after, rfl, List.forall_mem_cons.mpr ⟨hlt, hb⟩, hf⟩
    · refine ⟨[], x :: l, rfl, nofun, List.forall_mem_cons.mpr ⟨by omega, fun y hy => ?_⟩⟩
      have := hx y.path (List.mem_map_of_mem hy)
      omega

/-- An entry goes between those before it and those after it. -/
theorem placeByDelay_between {e : Tracked} {before after : List Tracked} (hb : ∀ x ∈ before, x.path.delay < e.path.delay)
    (ha : ∀ x ∈ after, e.path.delay < x.path.delay) : placeByDelay e (before ++ after) = before ++ e :: after := by
  induction before with
  | nil =>
    cases after with
    | nil => rfl
    | cons y after =>
      have hy := ha y List.mem_cons_self
      simp [placeByDelay, insertBefore, hy]
  | cons x before ih =>
    obtain ⟨hx, hb⟩ := List.forall_mem_cons.mp hb
    have := ih hb
    simp only [placeByDelay] at this
    simp [placeByDelay, insertBefore, this, show ¬e.path.delay < x.path.delay by omega]

/-- A peak away from a spaced list keeps it spaced. -/
theorem placeByDelay_spaced {e : Tracked} {l : List Tracked} (hs : spaced (pathsOf l))
    (ha : apart e.path.delay (pathsOf l)) : spaced (pathsOf (placeByDelay e l)) := by
  obtain ⟨before, after, rfl, hb, hf⟩ := exists_split_at hs ha
  have hfar : ∀ x ∈ before ++ after, 4 < (x.path.delay - e.path.delay).natAbs :=
    fun x hx => ha x.path (List.mem_map_of_mem hx)
  rw [placeByDelay_between hb hf]
  rw [spaced_pathsOf] at hs ⊢
  obtain ⟨hbefore, hafter, hcross⟩ := List.pairwise_append.mp hs
  refine List.pairwise_append.mpr ⟨hbefore, List.pairwise_cons.mpr ⟨fun y hy => ?_, hafter⟩, fun x hx => ?_⟩
  · have := hfar y (List.mem_append_right _ hy)
    have := hf y hy
    omega
  · have := hfar x (List.mem_append_left _ hx)
    have := hb x hx
    exact List.forall_mem_cons.mpr ⟨by omega, hcross x hx⟩

theorem weakestBelow_eq (power : Nat) (l : List Tracked) : weakestBelow power l =
    bestOf (lessBy (fun e => e.path.power) fun e => e.path.delay)
      (l.filter fun e => decide (e.path.state ≠ .confirmed ∧ e.path.power < power)) := rfl

theorem weakestBelow_eq_none {power : Nat} {l : List Tracked} :
    weakestBelow power l = none ↔ ∀ e ∈ l, e.path.state ≠ .confirmed → power ≤ e.path.power := by
  simp [weakestBelow_eq, bestOf_eq_none, List.filter_eq_nil_iff]

theorem weakestBelow_mem {power : Nat} {l : List Tracked} {weak : Tracked} (h : weakestBelow power l = some weak) :
    weak ∈ l ∧ weak.path.state ≠ .confirmed ∧ weak.path.power < power := by
  simpa using bestOf_mem h

/-- The entries of a list but for those at a delay. -/
def withoutDelay (delay : Int) (l : List Tracked) : List Tracked := l.filter fun e => decide (e.path.delay ≠ delay)

theorem any_near_iff {l : List Tracked} {delay : Int} :
    (l.any fun e => decide (delayDistance e.path.delay delay ≤ 4)) = true ↔ ¬apart delay (pathsOf l) := by
  simp only [List.any_eq_true, decide_eq_true_eq, apart, pathsOf, List.forall_mem_map, not_forall, Nat.not_lt, exists_prop]
  rfl

theorem insertPeak_near {l : List Tracked} {p : Peak} (h : ¬apart p.delay (pathsOf l)) : insertPeak l p = l :=
  if_pos (any_near_iff.mpr h)

theorem insertPeak_placed {l : List Tracked} {p : Peak} (h : apart p.delay (pathsOf l)) (hl : l.length < 8) :
    insertPeak l p = placeByDelay (inserted p) l :=
  (if_neg fun hany => any_near_iff.mp hany h).trans (if_pos hl)

/-- A full list with no entry to leave it takes no peak (R32). -/
theorem insertPeak_discarded {l : List Tracked} {p : Peak} (hl : 8 ≤ l.length)
    (hw : weakestBelow p.power.val l = none) : insertPeak l p = l := by
  unfold insertPeak
  dsimp only
  split
  · rfl
  · rw [if_neg (by omega), hw]

/-- In a full list the peak takes the place of the entry that leaves it (R32). -/
theorem insertPeak_replaces {l : List Tracked} {p : Peak} {weak : Tracked} (h : apart p.delay (pathsOf l))
    (hl : 8 ≤ l.length) (hw : weakestBelow p.power.val l = some weak) :
    insertPeak l p = placeByDelay (inserted p) (withoutDelay weak.path.delay l) := by
  unfold insertPeak
  dsimp only
  rw [if_neg fun hany => any_near_iff.mp hany h, if_neg (by omega), hw]
  rfl

/-- A peak leaves the list as it is, or is placed among entries that leave room for it and stand away from it. -/
theorem insertPeak_cases (l : List Tracked) (p : Peak) : insertPeak l p = l
    ∨ ∃ kept, kept.Sublist l ∧ (l.length ≤ 8 → kept.length < 8) ∧ apart p.delay (pathsOf kept)
      ∧ insertPeak l p = placeByDelay (inserted p) kept := by
  by_cases h : apart p.delay (pathsOf l)
  · by_cases hl : l.length < 8
    · exact .inr ⟨l, .refl l, fun _ => hl, h, insertPeak_placed h hl⟩
    · cases hw : weakestBelow p.power.val l with
      | none => exact .inl (insertPeak_discarded (by omega) hw)
      | some weak =>
        have hsub : (withoutDelay weak.path.delay l).Sublist l := List.filter_sublist
        have hgone : (withoutDelay weak.path.delay l).length < l.length :=
          List.length_filter_lt_length_iff_exists.mpr ⟨weak, (weakestBelow_mem hw).1, by simp⟩
        exact .inr ⟨_, hsub, fun h8 => by omega, fun e he => h e ((hsub.map _).subset he),
          insertPeak_replaces h (by omega) hw⟩
  · exact .inl (insertPeak_near h)

theorem pathsSound_insertPeak {l : List Tracked} {p : Peak} (hp : -2048 ≤ p.delay ∧ p.delay ≤ 6143)
    (h : pathsSound (pathsOf l)) : pathsSound (pathsOf (insertPeak l p)) := by
  rcases insertPeak_cases l p with hi | ⟨kept, hsub, hlen, hap, hi⟩
  · rwa [hi]
  · rw [pathsSound_pathsOf] at h ⊢
    obtain ⟨hlength, hspaced, hrange⟩ := h
    have hplaced : (placeByDelay (inserted p) kept).length = kept.length + 1 := insertBefore_length ..
    rw [hi]
    refine ⟨by have := hlen hlength; omega, ?_, fun e he => ?_⟩
    · exact placeByDelay_spaced (List.Pairwise.sublist (hsub.map _) hspaced) hap
    · rcases mem_insertBefore.mp he with rfl | he
      · have := p.power.isLt
        exact ⟨hp.1, hp.2, by simp only [inserted]; omega, Nat.zero_le 8⟩
      · exact hrange e (hsub.subset he)

/-! ## Ageing (R33) -/

theorem ageEntry_some {t : Tracked} {e : Path} (h : ageEntry t = some e) :
    e.delay = t.path.delay ∧ e.power = t.path.power ∧ (t.path.age ≤ 8 → e.age ≤ 8) := by
  unfold ageEntry at h
  split at h
  · cases h; exact ⟨rfl, rfl, id⟩
  · split at h
    · cases h
    · cases h; exact ⟨rfl, rfl, fun _ => Nat.one_le_ofNat⟩
    · split at h
      · cases h
      · cases h; exact ⟨rfl, rfl, fun _ => by simp only; omega⟩

theorem pathsSound_aged {l : List Tracked} (h : pathsSound (pathsOf l)) : pathsSound (l.filterMap ageEntry) := by
  rw [pathsSound_pathsOf, spaced_pathsOf] at h
  obtain ⟨hlength, hspaced, hrange⟩ := h
  refine ⟨(List.length_filterMap_le ..).trans hlength, hspaced.filterMap _ fun a b hab e he f hf => ?_, fun e he => ?_⟩
  · obtain ⟨hed, -, -⟩ := ageEntry_some he
    obtain ⟨hfd, -, -⟩ := ageEntry_some hf
    omega
  · obtain ⟨t, ht, he⟩ := List.mem_filterMap.mp he
    obtain ⟨hdelay, hpower, hage⟩ := ageEntry_some he
    obtain ⟨hlo, hhi, hp, ha⟩ := hrange t ht
    exact ⟨hdelay ▸ hlo, hdelay ▸ hhi, hpower ▸ hp, hage ha⟩

theorem pathsSound_insertPeaks {peaks : List Peak} {l : List Tracked}
    (hp : ∀ p ∈ peaks, -2048 ≤ p.delay ∧ p.delay ≤ 6143) (h : pathsSound (pathsOf l)) :
    pathsSound (pathsOf (peaks.foldl insertPeak l)) := by
  induction peaks generalizing l with
  | nil => exact h
  | cons p peaks ih =>
    obtain ⟨hp, hpeaks⟩ := List.forall_mem_cons.mp hp
    exact ih hpeaks (pathsSound_insertPeak hp h)

/-- An update whose peaks lie in range keeps the path list sound, whatever it reports (R25). -/
theorem pathsSound_mergeUpdate {paths : List Path} {peaks : List Peak}
    (hp : ∀ p ∈ peaks, -2048 ≤ p.delay ∧ p.delay ≤ 6143) (h : pathsSound paths) :
    pathsSound (mergeUpdate peaks paths) :=
  pathsSound_aged <| pathsSound_insertPeaks
    (fun p hmem => hp p (List.mem_filter.mp (mem_sortBy.mp hmem)).1) (pathsSound_merged hp h)

theorem reportedPeaks_inRange {threshold : Nat} {peaks : List Peak} :
    ∀ p ∈ reportedPeaks threshold peaks, -2048 ≤ p.delay ∧ p.delay ≤ 6143 := by
  intro p hp
  obtain ⟨-, h⟩ := List.mem_filter.mp hp
  exact (of_decide_eq_true h).2

end Sys2Proof.Machine

/-! # Proofs: an update of one peak, rule by rule (R26 to R33) -/

namespace Sys2Proof.Machine

/-! ## Ageing entry by entry (R33) -/

theorem ageEntry_unseen (e : Path) : (ageEntry (unseen e)).toList = unseenEntry e := by
  cases hs : e.state with
  | new | confirmed => simp [ageEntry, unseen, unseenEntry, hs]
  | fading =>
    by_cases h : 7 ≤ e.age
    · simp [ageEntry, unseen, unseenEntry, hs, h]
    · simp [ageEntry, unseen, unseenEntry, hs, h]

/-- The entries that an update did not see, after it (R33). -/
theorem aged_unseen (paths : List Path) : (paths.map unseen).filterMap ageEntry = paths.flatMap unseenEntry := by
  rw [List.filterMap_eq_flatMap_toList, List.flatMap_map]
  exact List.flatMap_congr fun e _ => ageEntry_unseen e

/-- An entry the update saw stays as it is; the others age (R33). -/
theorem aged_around (before after : List Path) {t : Tracked} (h : t.seen = true) :
    (before.map unseen ++ t :: after.map unseen).filterMap ageEntry
      = before.flatMap unseenEntry ++ t.path :: after.flatMap unseenEntry := by
  have ht : ageEntry t = some t.path := if_pos h
  rw [List.filterMap_append, List.filterMap_cons_some ht, aged_unseen, aged_unseen]

theorem pathsOf_unseen (paths : List Path) : pathsOf (paths.map unseen) = paths := by
  simp [pathsOf, unseen, Function.comp_def]

theorem pathsOf_around (before after : List Path) (t : Tracked) :
    pathsOf (before.map unseen ++ t :: after.map unseen) = before ++ t.path :: after := by
  rw [pathsOf, List.map_append, List.map_cons]
  exact congrArg₂ (· ++ t.path :: ·) (pathsOf_unseen before) (pathsOf_unseen after)

/-! ## Merging neighbours in a list that is already spaced (R30) -/

theorem mergeFrom_append {before : List Tracked} {cur a : Tracked} (rest : List Tracked)
    (h : spaced (pathsOf (cur :: before ++ [a]))) :
    mergeFrom cur (before ++ a :: rest) = cur :: before ++ mergeFrom a rest := by
  induction before generalizing cur with
  | nil =>
    have hgap : cur.path.delay + 5 ≤ a.path.delay := by simpa [spaced_pathsOf] using h
    exact if_neg (by omega)
  | cons x before ih =>
    obtain ⟨hcur, hx⟩ := List.pairwise_cons.mp (spaced_pathsOf.mp h)
    have hgap := hcur x List.mem_cons_self
    rw [List.cons_append, mergeFrom, if_neg (by omega), ih (spaced_pathsOf.mpr hx)]
    rfl

/-- As far as the entries are spaced nothing is merged. -/
theorem mergeNeighbours_append {before : List Tracked} {a : Tracked} (rest : List Tracked)
    (h : spaced (pathsOf (before ++ [a]))) : mergeNeighbours (before ++ a :: rest) = before ++ mergeFrom a rest := by
  cases before with
  | nil => rfl
  | cons cur before => exact mergeFrom_append rest h

theorem mergeFrom_spacedFixed {l : List Tracked} {cur : Tracked} (h : spaced (pathsOf (cur :: l))) :
    mergeFrom cur l = cur :: l := by
  rcases l.eq_nil_or_concat' with rfl | ⟨l, a, rfl⟩
  · rfl
  · exact mergeFrom_append [] h

theorem mergeNeighbours_fixed {l : List Tracked} (h : spaced (pathsOf l)) : mergeNeighbours l = l := by
  cases l with
  | nil => rfl
  | cons cur l => exact mergeFrom_spacedFixed h

/-- Two neighbours 4 ES or less apart, in a list spaced but for them. -/
theorem mergeNeighbours_pair {before after : List Tracked} {a b : Tracked} (hab : b.path.delay - a.path.delay ≤ 4)
    (ha : spaced (pathsOf (before ++ [a])))
    (hm : spaced (pathsOf ({ path := mergePair a.path b.path, seen := true } :: after))) :
    mergeNeighbours (before ++ a :: b :: after)
      = before ++ { path := mergePair a.path b.path, seen := true } :: after := by
  rw [mergeNeighbours_append _ ha, mergeFrom, if_pos hab, mergeFrom_spacedFixed hm]

/-! ## Which entry one peak updates (R28, R29) -/

theorem spaced_around {before after : List Path} {e : Path} (h : spaced (before ++ e :: after)) :
    spaced before ∧ spaced after ∧ (∀ x ∈ before, x.delay + 5 ≤ e.delay) ∧ (∀ x ∈ after, e.delay + 5 ≤ x.delay)
      ∧ ∀ x ∈ before, ∀ y ∈ after, x.delay + 5 ≤ y.delay := by
  obtain ⟨hb, he, hx⟩ := List.pairwise_append.mp h
  obtain ⟨he, ha⟩ := List.pairwise_cons.mp he
  exact ⟨hb, ha, fun x h => hx x h e List.mem_cons_self, he, fun x h y hy => hx x h y (List.mem_cons_of_mem _ hy)⟩

theorem spaced_between {before after : List Path} {e : Path} (hb : spaced before) (ha : spaced after)
    (hbe : ∀ x ∈ before, x.delay + 5 ≤ e.delay) (hea : ∀ x ∈ after, e.delay + 5 ≤ x.delay)
    (hba : ∀ x ∈ before, ∀ y ∈ after, x.delay + 5 ≤ y.delay) : spaced (before ++ e :: after) :=
  List.pairwise_append.mpr
    ⟨hb, List.pairwise_cons.mpr ⟨hea, ha⟩, fun x hx => List.forall_mem_cons.mpr ⟨hbe x hx, hba x hx⟩⟩

theorem matchOf_unique {paths : List Path} {delay : Int} {e : Path} (he : e ∈ paths)
    (hn : delayDistance e.delay delay ≤ 4) (hbest : ∀ x ∈ paths, delayDistance x.delay delay ≤ 4 → x ≠ e →
      delayDistance e.delay delay < delayDistance x.delay delay
        ∨ (delayDistance e.delay delay = delayDistance x.delay delay ∧ e.delay < x.delay)) :
    matchOf paths delay = some e := by
  cases hm : matchOf paths delay with
  | none => exact absurd (matchOf_eq_none.mp hm e he) (Nat.not_lt.mpr hn)
  | some m =>
    obtain ⟨hmem, hnear, hle⟩ := matchOf_some hm
    by_cases hme : m = e
    · rw [hme]
    · have := hle e he
      have := hbest m hmem hnear hme
      omega

/-- The entry that alone lies within 4 ES of a peak is its match (R28). -/
theorem matchOf_alone {before after : List Path} {e : Path} {delay : Int} (hn : delayDistance e.delay delay ≤ 4)
    (hb : apart delay before) (ha : apart delay after) : matchOf (before ++ e :: after) delay = some e := by
  refine matchOf_unique (by simp) hn fun x hx hx4 hne => ?_
  simp only [delayDistance] at hx4
  rcases List.mem_append.mp hx with hx | hx
  · have := hb x hx; omega
  · rcases List.mem_cons.mp hx with rfl | hx
    · exact absurd rfl hne
    · have := ha x hx; omega

theorem keptPeak_single {paths : List Path} {p : Peak} {e : Path} (x : Path) (h : matchOf paths p.delay = some e) :
    keptPeak paths [p] x = if e.delay = x.delay then some p else none := by
  by_cases hx : e.delay = x.delay <;> simp [keptPeak, h, hx, bestOf]

/-- One peak updates its match and no other entry. -/
theorem update_single {before after : List Path} {e : Path} {p : Peak} (hs : spaced (before ++ e :: after))
    (h : matchOf (before ++ e :: after) p.delay = some e) :
    (before ++ e :: after).map (updateEntry (before ++ e :: after) [p])
      = before.map unseen ++ taken p e :: after.map unseen := by
  obtain ⟨-, -, hb, ha, -⟩ := spaced_around hs
  have other : ∀ x, e.delay ≠ x.delay → updateEntry (before ++ e :: after) [p] x = unseen x :=
    fun x hx => updateEntry_none ((keptPeak_single x h).trans (if_neg hx))
  rw [List.map_append, List.map_cons, updateEntry_some ((keptPeak_single e h).trans (if_pos rfl)),
    List.map_congr_left fun x hx => other x (by have := hb x hx; omega),
    List.map_congr_left fun x hx => other x (by have := ha x hx; omega)]

/-- The list after one peak that has a match (R29, R30, R33). -/
theorem mergeUpdate_matched {before after : List Path} {e : Path} {p : Peak} (hs : spaced (before ++ e :: after))
    (h : matchOf (before ++ e :: after) p.delay = some e) : mergeUpdate [p] (before ++ e :: after) =
      (mergeNeighbours (before.map unseen ++ taken p e :: after.map unseen)).filterMap ageEntry := by
  have hu : unmatchedPeaks (before ++ e :: after) [p] = [] := by simp [unmatchedPeaks, h, sortBy]
  rw [mergeUpdate, update_single hs h, hu]
  rfl

/-- R28, R29: the peak's entry takes its delay, a power drawn a quarter toward its own, CONFIRMED and age 0. -/
theorem mergeUpdate_takes {before after : List Path} {e : Path} {p : Peak} (hs : spaced (before ++ e :: after))
    (hn : (e.delay - p.delay).natAbs ≤ 4) (hb : apart p.delay before) (ha : apart p.delay after) :
    mergeUpdate [p] (before ++ e :: after)
      = before.flatMap unseenEntry ++ (taken p e).path :: after.flatMap unseenEntry := by
  obtain ⟨hsb, hsa, hbe, hea, hba⟩ := spaced_around hs
  have hsp : spaced (pathsOf (before.map unseen ++ taken p e :: after.map unseen)) := by
    rw [pathsOf_around]
    refine spaced_between hsb hsa (fun x hx => ?_) (fun x hx => ?_) hba <;> simp only [taken]
    · have := hbe x hx; have := hb x hx; omega
    · have := hea x hx; have := ha x hx; omega
  rw [mergeUpdate_matched hs (matchOf_alone hn hb ha), mergeNeighbours_fixed hsp, aged_around _ _ rfl]

/-! ## Two entries within 4 ES of one peak (R28, R30) -/

/-- Two neighbours merged in a list whose other entries were not seen (R30, R33). -/
theorem aged_pair {before after : List Path} {a b : Tracked} (hsb : spaced before) (hsa : spaced after)
    (hle : a.path.delay ≤ b.path.delay) (hab : b.path.delay - a.path.delay ≤ 4)
    (hb : ∀ x ∈ before, x.delay + 5 ≤ a.path.delay) (ha : ∀ x ∈ after, b.path.delay + 5 ≤ x.delay) :
    (mergeNeighbours (before.map unseen ++ a :: b :: after.map unseen)).filterMap ageEntry
      = before.flatMap unseenEntry ++ mergePair a.path b.path :: after.flatMap unseenEntry := by
  have hd := mergePair_delay a.path b.path
  have hfirst : spaced (pathsOf (before.map unseen ++ [a])) := by
    have := pathsOf_around before [] a
    rw [List.map_nil] at this
    rw [this]
    exact spaced_between hsb .nil hb nofun fun _ _ => nofun
  have hrest : spaced (pathsOf ({ path := mergePair a.path b.path, seen := true } :: after.map unseen)) := by
    have := pathsOf_around [] after { path := mergePair a.path b.path, seen := true }
    rw [List.map_nil, List.nil_append, List.nil_append] at this
    rw [this]
    exact List.pairwise_cons.mpr ⟨fun x hx => by have := ha x hx; simp only; omega, hsa⟩
  rw [mergeNeighbours_pair hab hfirst hrest, aged_around _ _ rfl]

section
variable {before after : List Path} {a b : Path} {p : Peak} (hs : spaced (before ++ a :: b :: after))
  (ha : (a.delay - p.delay).natAbs ≤ 4) (hb : (b.delay - p.delay).natAbs ≤ 4)
include hs ha hb

/-- Every other entry stands more than 4 ES from the peak, which lies between the two. -/
theorem pair_alone : spaced before ∧ spaced after ∧ (∀ x ∈ before, x.delay + 5 ≤ a.delay)
    ∧ (∀ x ∈ after, b.delay + 5 ≤ x.delay) ∧ a.delay < p.delay ∧ p.delay < b.delay
    ∧ ∀ x ∈ before ++ a :: b :: after, (x.delay - p.delay).natAbs ≤ 4 → x = a ∨ x = b := by
  obtain ⟨hsb, hsba, hba, haa, -⟩ := spaced_around hs
  obtain ⟨hbb, hsa⟩ := List.pairwise_cons.mp hsba
  have hab := haa b List.mem_cons_self
  refine ⟨hsb, hsa, hba, hbb, by omega, by omega, fun x hx hx4 => ?_⟩
  simp only [List.mem_append, List.mem_cons] at hx
  rcases hx with hx | hx | hx | hx
  · have := hba x hx; omega
  · exact .inl hx
  · exact .inr hx
  · have := hbb x hx; omega

/-- The peak takes the earlier entry, which is no farther, and the two are merged. -/
theorem mergeUpdate_mergesEarlier (h : (a.delay - p.delay).natAbs ≤ (b.delay - p.delay).natAbs) :
    mergeUpdate [p] (before ++ a :: b :: after)
      = before.flatMap unseenEntry ++ mergePair (taken p a).path b :: after.flatMap unseenEntry := by
  obtain ⟨hsb, hsa, hba, hbb, hap, hpb, hother⟩ := pair_alone hs ha hb
  have hm : matchOf (before ++ a :: b :: after) p.delay = some a := by
    refine matchOf_unique (by simp) ha fun x hx hx4 hne => ?_
    obtain rfl := (hother x hx hx4).resolve_left hne
    simp only [delayDistance]; omega
  rw [mergeUpdate_matched hs hm]
  exact aged_pair (b := unseen b) hsb hsa (by simp only [taken, unseen]; omega) (by simp only [taken, unseen]; omega)
    (fun x hx => by have := hba x hx; simp only [taken]; omega) hbb

/-- The peak takes the later entry, which is nearer, and the two are merged. -/
theorem mergeUpdate_mergesLater (h : (b.delay - p.delay).natAbs < (a.delay - p.delay).natAbs) :
    mergeUpdate [p] (before ++ a :: b :: after)
      = before.flatMap unseenEntry ++ mergePair a (taken p b).path :: after.flatMap unseenEntry := by
  obtain ⟨hsb, hsa, hba, hbb, hap, hpb, hother⟩ := pair_alone hs ha hb
  have hm : matchOf (before ++ a :: b :: after) p.delay = some b := by
    refine matchOf_unique (by simp) hb fun x hx hx4 hne => ?_
    obtain rfl := (hother x hx hx4).resolve_right hne
    exact .inl h
  rw [List.append_cons] at hs hm ⊢
  rw [mergeUpdate_matched hs hm, List.map_append, List.append_assoc]
  exact aged_pair (a := unseen a) hsb hsa (by simp only [taken, unseen]; omega) (by simp only [taken, unseen]; omega)
    hba (fun x hx => by have := hbb x hx; simp only [taken]; omega)

end

/-! ## A peak with no match (R31, R32) -/

theorem updateEntry_apart {paths : List Path} {peaks : List Peak} (h : ∀ p ∈ peaks, apart p.delay paths) (e : Path) :
    updateEntry paths peaks e = unseen e := by
  cases hk : keptPeak paths peaks e with
  | none => exact updateEntry_none hk
  | some p =>
    obtain ⟨hp, m, hm, -⟩ := keptPeak_some hk
    rw [matchOf_eq_none.mpr (h p hp)] at hm
    cases hm

theorem unmatchedPeaks_apart {paths : List Path} {peaks : List Peak} (h : ∀ p ∈ peaks, apart p.delay paths) :
    unmatchedPeaks paths peaks = sortBy strongerPeak peaks := by
  rw [unmatchedPeaks, List.filter_eq_self.mpr fun p hp => by rw [matchOf_eq_none.mpr (h p hp)]; rfl]

/-- Peaks that all stand away from a spaced list update and merge nothing: they are inserted, the strongest first. -/
theorem mergeUpdate_apart {paths : List Path} {peaks : List Peak} (hs : spaced paths)
    (h : ∀ p ∈ peaks, apart p.delay paths) : mergeUpdate peaks paths =
      ((sortBy strongerPeak peaks).foldl insertPeak (paths.map unseen)).filterMap ageEntry := by
  rw [mergeUpdate, List.map_congr_left fun e _ => updateEntry_apart h e, unmatchedPeaks_apart h,
    mergeNeighbours_fixed (by rwa [pathsOf_unseen])]

theorem mergeUpdate_unmatched {paths : List Path} {p : Peak} (hs : spaced paths) (h : apart p.delay paths) :
    mergeUpdate [p] paths = (insertPeak (paths.map unseen) p).filterMap ageEntry :=
  mergeUpdate_apart hs (by simpa using h)

theorem mergeUpdate_nil {paths : List Path} (hs : spaced paths) : mergeUpdate [] paths = paths.flatMap unseenEntry := by
  rw [mergeUpdate_apart hs (List.forall_mem_nil _), ← aged_unseen]
  rfl

/-- R31: the peak is inserted as NEW in delay order. -/
theorem mergeUpdate_inserts {before after : List Path} {p : Peak} (hs : spaced (before ++ after))
    (hl : (before ++ after).length < 8) (h : apart p.delay (before ++ after)) (hb : ∀ x ∈ before, x.delay < p.delay)
    (ha : ∀ x ∈ after, p.delay < x.delay) : mergeUpdate [p] (before ++ after)
      = before.flatMap unseenEntry ++ (inserted p).path :: after.flatMap unseenEntry := by
  rw [mergeUpdate_unmatched hs h, insertPeak_placed (by rwa [pathsOf_unseen]) (by rwa [List.length_map]), List.map_append,
    placeByDelay_between (List.forall_mem_map.mpr hb) (List.forall_mem_map.mpr ha), aged_around _ _ rfl]

/-- R32: a full list with no weaker NEW or FADING entry takes no peak. -/
theorem mergeUpdate_discards {paths : List Path} {p : Peak} (hs : spaced paths) (hl : paths.length = 8)
    (h : apart p.delay paths) (hw : ∀ x ∈ paths, x.state ≠ .confirmed → p.power.val ≤ x.power) :
    mergeUpdate [p] paths = paths.flatMap unseenEntry := by
  rw [mergeUpdate_unmatched hs h, insertPeak_discarded (by rw [List.length_map, hl])
    (weakestBelow_eq_none.mpr (List.forall_mem_map.mpr hw)), aged_unseen]

/-- The entry that leaves a full list is none but the first of the weakest (R32). -/
theorem weakestBelow_first {before after : List Path} {e : Path} {power : Nat} (hs : spaced (before ++ e :: after))
    (hc : e.state ≠ .confirmed) (hp : e.power < power) (hb : ∀ x ∈ before, x.state ≠ .confirmed → e.power < x.power)
    (ha : ∀ x ∈ after, x.state ≠ .confirmed → e.power ≤ x.power) :
    weakestBelow power ((before ++ e :: after).map unseen) = some (unseen e) := by
  cases hw : weakestBelow power ((before ++ e :: after).map unseen) with
  | none => exact absurd (weakestBelow_eq_none.mp hw (unseen e) (List.mem_map_of_mem (by simp)) hc) (Nat.not_le.mpr hp)
  | some weak =>
    obtain ⟨hmem, hwc, -⟩ := weakestBelow_mem hw
    rw [weakestBelow_eq] at hw
    have hbest := bestOf_lessBy hw (unseen e)
      (List.mem_filter.mpr ⟨List.mem_map_of_mem (by simp), decide_eq_true ⟨hc, hp⟩⟩)
    obtain ⟨x, hx, rfl⟩ := List.mem_map.mp hmem
    obtain ⟨-, -, -, hea, -⟩ := spaced_around hs
    simp only [unseen] at hbest hwc
    rcases List.mem_append.mp hx with hx | hx
    · have := hb x hx hwc; omega
    · rcases List.mem_cons.mp hx with rfl | hx
      · rfl
      · have := ha x hx hwc; have := hea x hx; omega

theorem withoutDelay_unseen {before after : List Path} {e : Path} (hs : spaced (before ++ e :: after)) :
    withoutDelay e.delay ((before ++ e :: after).map unseen) = (before ++ after).map unseen := by
  obtain ⟨-, -, hb, ha, -⟩ := spaced_around hs
  have keep (l : List Path) (h : ∀ x ∈ l, x.delay ≠ e.delay) : withoutDelay e.delay (l.map unseen) = l.map unseen :=
    List.filter_eq_self.mpr (List.forall_mem_map.mpr fun x hx => decide_eq_true (h x hx))
  have hgone : withoutDelay e.delay [unseen e] = [] := by simp [withoutDelay, unseen]
  have hsplit : (before ++ e :: after).map unseen = before.map unseen ++ ([unseen e] ++ after.map unseen) := by simp
  rw [hsplit, withoutDelay, List.filter_append, List.filter_append, ← withoutDelay, ← withoutDelay, ← withoutDelay, hgone,
    keep before fun x hx => by have := hb x hx; omega, keep after fun x hx => by have := ha x hx; omega]
  simp

/-- R32: in a full list the peak takes the place of the weakest NEW or FADING entry below it in power. -/
theorem mergeUpdate_replaces {before after : List Path} {e : Path} {p : Peak} (hs : spaced (before ++ e :: after))
    (hl : (before ++ e :: after).length = 8) (h : apart p.delay (before ++ e :: after)) (hc : e.state ≠ .confirmed)
    (hp : e.power < p.power.val) (hb : ∀ x ∈ before, x.state ≠ .confirmed → e.power < x.power)
    (ha : ∀ x ∈ after, x.state ≠ .confirmed → e.power ≤ x.power) :
    mergeUpdate [p] (before ++ e :: after) = mergeUpdate [p] (before ++ after) := by
  have hsub : (before ++ after).Sublist (before ++ e :: after) := (List.sublist_cons_self e after).append_left before
  have hlen : (before ++ after).length < 8 := by simp only [List.length_append, List.length_cons] at *; omega
  have hap : apart p.delay (before ++ after) := fun x hx => h x (hsub.subset hx)
  rw [mergeUpdate_unmatched hs h, insertPeak_replaces (by rwa [pathsOf_unseen]) (by rw [List.length_map, hl])
      (weakestBelow_first hs hc hp hb ha), mergeUpdate_unmatched (List.Pairwise.sublist hsub hs) hap,
    insertPeak_placed (by rwa [pathsOf_unseen]) (by rwa [List.length_map])]
  exact congrArg (fun l => (placeByDelay (inserted p) l).filterMap ageEntry) (withoutDelay_unseen hs)

/-! ## Two peaks of which one counts (R28, R31) -/

theorem strongerPeak_iff {p q : Peak} : strongerPeak p q = true ↔
    q.power.val < p.power.val ∨ (q.power.val = p.power.val ∧ p.delay < q.delay) := by
  rw [eq_comm (a := q.power.val), ← Fin.ext_iff]
  exact decide_eq_true_iff

theorem strongerPeak_asymm {p q : Peak} (h : strongerPeak p q = true) : strongerPeak q p = false := by
  rw [strongerPeak_iff] at h
  rw [← Bool.not_eq_true, strongerPeak_iff]
  omega

/-- An update is what the peaks its entries keep and its unmatched peaks make of it. -/
theorem mergeUpdate_congr {paths : List Path} {peaks peaks' : List Peak}
    (hk : ∀ e ∈ paths, keptPeak paths peaks e = keptPeak paths peaks' e)
    (hu : unmatchedPeaks paths peaks = unmatchedPeaks paths peaks') : mergeUpdate peaks paths = mergeUpdate peaks' paths := by
  have hupdate : paths.map (updateEntry paths peaks) = paths.map (updateEntry paths peaks') :=
    List.map_congr_left fun e he => by simp only [updateEntry, hk e he]
  rw [mergeUpdate, mergeUpdate, hupdate, hu]

section
variable {p q : Peak} (hpq : strongerPeak p q = true)
include hpq

theorem bestOf_pair : bestOf strongerPeak [p, q] = some p ∧ bestOf strongerPeak [q, p] = some p := by
  simp [bestOf, hpq, strongerPeak_asymm hpq]

theorem sortBy_pair : sortBy strongerPeak [p, q] = [p, q] ∧ sortBy strongerPeak [q, p] = [p, q] := by
  simp [sortBy, insertBefore, hpq, strongerPeak_asymm hpq]

/-- R28: of two peaks with one match only the stronger counts. -/
theorem mergeUpdate_oneMatch {paths : List Path} {e : Path} (hp : matchOf paths p.delay = some e)
    (hq : matchOf paths q.delay = some e) :
    mergeUpdate [p, q] paths = mergeUpdate [p] paths ∧ mergeUpdate [q, p] paths = mergeUpdate [p] paths := by
  obtain ⟨hfirst, hlast⟩ := bestOf_pair hpq
  constructor <;> refine mergeUpdate_congr (fun x _ => ?_) (by simp [unmatchedPeaks, hp, hq]) <;>
    by_cases hx : e.delay = x.delay <;> simp [keptPeak, hp, hq, hx, hfirst, hlast]
  all_goals rfl

/-- A peak within 4 ES of a stronger one changes nothing after it (R31). -/
theorem insertPeak_shadowed (l : List Tracked) (hn : (p.delay - q.delay).natAbs ≤ 4) (h : apart p.delay (pathsOf l)) :
    insertPeak (insertPeak l p) q = insertPeak l p := by
  have shadow (kept : List Tracked) : ¬apart q.delay (pathsOf (placeByDelay (inserted p) kept)) := fun hap =>
    absurd (hap (inserted p).path (List.mem_map_of_mem (mem_insertBefore.mpr (.inl rfl)))) (Nat.not_lt.mpr hn)
  by_cases hl : l.length < 8
  · rw [insertPeak_placed h hl]; exact insertPeak_near (shadow _)
  · cases hw : weakestBelow p.power.val l with
    | some weak => rw [insertPeak_replaces h (by omega) hw]; exact insertPeak_near (shadow _)
    | none =>
      have hle : q.power.val ≤ p.power.val := by
        have := strongerPeak_iff.mp hpq; omega
      have hwq : weakestBelow q.power.val l = none :=
        weakestBelow_eq_none.mpr fun e he hc => hle.trans (weakestBelow_eq_none.mp hw e he hc)
      rw [insertPeak_discarded (by omega) hw, insertPeak_discarded (by omega) hwq]

/-- R31: of two unmatched peaks within 4 ES only the stronger counts. -/
theorem mergeUpdate_shadowed {paths : List Path} (hs : spaced paths) (hn : (p.delay - q.delay).natAbs ≤ 4)
    (hp : apart p.delay paths) (hq : apart q.delay paths) :
    mergeUpdate [p, q] paths = mergeUpdate [p] paths ∧ mergeUpdate [q, p] paths = mergeUpdate [p] paths := by
  obtain ⟨hfirst, hlast⟩ := sortBy_pair hpq
  have hshadow := insertPeak_shadowed hpq (paths.map unseen) hn (by rwa [pathsOf_unseen])
  rw [mergeUpdate_apart hs (peaks := [p, q]) (by simp [hp, hq]), mergeUpdate_apart hs (peaks := [q, p]) (by simp [hp, hq]),
    hfirst, hlast, mergeUpdate_unmatched hs hp, and_self]
  exact congrArg _ hshadow

end

end Sys2Proof.Machine

/-! # Proofs: profile updates and the window's placement (R26, R27, R34 to R37) -/

namespace Sys2Proof.Machine

/-! ## Profile updates taken and set aside (R26, R27) -/

theorem takesProfiles_iff {s : State} : takesProfiles s = true ↔ s.gau.acq = .track ∨ s.gau.acq = .hold :=
  decide_eq_true_iff

theorem takeUpdate_held {peaks : List Peak} {c : Candidate} {s : State} (h : s.gau.held = some c) : takeUpdate peaks s =
    { s with wu := takeProfile (guardLength c) s.cfg.slew s.cfg.peakThreshold peaks s.wu } := by
  simp [takeUpdate, h]

theorem exec_profileUpdate (peaks : List Peak) {s : State} (hr : running s) : exec (.profileUpdate peaks) s =
    .next (if takesProfiles s then takeUpdate peaks s else s) := by
  refine whenRunning_running (f := fun s => if takesProfiles s then takeUpdate peaks s else s) hr ?_
  split
  · unfold takeUpdate; split <;> rfl
  · rfl

theorem exec_profileUpdate_held {peaks : List Peak} {c : Candidate} {s : State} (hr : running s)
    (ha : s.gau.acq = .track ∨ s.gau.acq = .hold) (hc : s.gau.held = some c) : exec (.profileUpdate peaks) s =
      .next { s with wu := takeProfile (guardLength c) s.cfg.slew s.cfg.peakThreshold peaks s.wu } := by
  rw [exec_profileUpdate peaks hr, if_pos (takesProfiles_iff.mpr ha), takeUpdate_held hc]

theorem takeProfile_aside {g slew threshold : Nat} {peaks : List Peak} {wu : Window} (h : 2 ≤ wu.erasedCount) :
    takeProfile g slew threshold peaks wu = { wu with erasedCount := 0 } := if_pos h

/-- The window once an update is merged, before it is placed. -/
def merged (threshold : Nat) (peaks : List Peak) (wu : Window) : Window :=
  { wu with erasedCount := 0, paths := mergeUpdate (reportedPeaks threshold peaks) wu.paths }

theorem takeProfile_taken {g slew threshold : Nat} {peaks : List Peak} {wu : Window} (h : wu.erasedCount ≤ 1) :
    takeProfile g slew threshold peaks wu = placeWindow g slew (merged threshold peaks wu) := if_neg (by omega)

/-! ## Placement (R36, R37) -/

theorem placeWindow_none {g slew : Nat} {wu : Window} (h : windowTarget g wu.paths = none) :
    placeWindow g slew wu = wu := by simp [placeWindow, h]

theorem placeWindow_some {g slew : Nat} {wu : Window} {w : Int} (h : windowTarget g wu.paths = some w) :
    placeWindow g slew wu =
      { wu with pendingPos := (pendingFor g slew wu.applied w).1, mark := (pendingFor g slew wu.applied w).2 } := by
  simp [placeWindow, h]

/-- Placement moves the pending position and its mark alone. -/
theorem placeWindow_keeps (g slew : Nat) (wu : Window) : (placeWindow g slew wu).erasedCount = wu.erasedCount
    ∧ (placeWindow g slew wu).paths = wu.paths ∧ (placeWindow g slew wu).applied = wu.applied
    ∧ (placeWindow g slew wu).grid = wu.grid := by
  unfold placeWindow; split <;> exact ⟨rfl, rfl, rfl, rfl⟩

theorem pendingFor_near {g slew : Nat} {applied target : Int} (h : 2 * (target - applied).natAbs ≤ g) :
    pendingFor g slew applied target = (max (applied - slew) (min (applied + slew) target), .step) := by
  rw [pendingFor, if_pos h, clampInt_eq target (by omega)]

theorem pendingFor_far {g slew : Nat} {applied target : Int} (h : g < 2 * (target - applied).natAbs) :
    pendingFor g slew applied target = (target, .jump) := if_neg (by omega)

/-- A target at most G / 2 from the applied position is approached by a STEP of at most the slew (R37). -/
theorem placeWindow_near {g slew : Nat} {wu : Window} {w : Int} (h : windowTarget g wu.paths = some w)
    (hn : 2 * (w - wu.applied).natAbs ≤ g) : (placeWindow g slew wu).mark = .step
      ∧ (placeWindow g slew wu).pendingPos = max (wu.applied - slew) (min (wu.applied + slew) w) := by
  rw [placeWindow_some h, pendingFor_near hn]; exact ⟨rfl, rfl⟩

/-- A target farther off is a JUMP (R37). -/
theorem placeWindow_far {g slew : Nat} {wu : Window} {w : Int} (h : windowTarget g wu.paths = some w)
    (hf : g < 2 * (w - wu.applied).natAbs) :
    (placeWindow g slew wu).mark = .jump ∧ (placeWindow g slew wu).pendingPos = w := by
  rw [placeWindow_some h, pendingFor_far hf]; exact ⟨rfl, rfl⟩

/-- Settles O20: the update's own effect, then the merge rule by rule. -/
theorem profileUpdateTakenOrSetAside : Obligations.ProfileUpdateTakenOrSetAside := by
  refine ⟨fun peaks s hr ht hh => ?ignored, fun peaks c s hr ha hc => ⟨fun h2 => ?aside, fun h1 => ?taken⟩,
    fun paths hsound => ?merge⟩
  case ignored =>
    rw [exec_profileUpdate peaks hr, if_neg]
    rw [takesProfiles_iff]
    exact fun h => h.elim ht hh
  case aside => rw [exec_profileUpdate_held hr ha hc, takeProfile_aside h2]
  case taken =>
    refine ⟨_, exec_profileUpdate_held hr ha hc, rfl, ?_⟩
    dsimp only
    rw [takeProfile_taken h1]
    obtain ⟨herased, hpaths, happlied, hgrid⟩ :=
      placeWindow_keeps (guardLength c) s.cfg.slew (merged s.cfg.peakThreshold peaks s.wu)
    rw [hpaths]
    refine ⟨herased, rfl, happlied, hgrid, fun w hw => ?_, fun hw => ?_⟩
    · exact ⟨fun hn => placeWindow_near hw hn, fun hf => placeWindow_far hw hf⟩
    · rw [placeWindow_none hw]; exact ⟨rfl, rfl⟩
  case merge =>
    obtain ⟨-, hs, -⟩ := hsound
    refine ⟨mergeUpdate_nil hs, fun p => ⟨?_, ?_, ?_, ?_, fun hl hp hw => mergeUpdate_discards hs hl hp hw, ?_⟩⟩
    · rintro before e after rfl hn hb ha
      exact mergeUpdate_takes hs hn hb ha
    · rintro before a b after rfl ha hb first pa pb
      by_cases hf : first
      · rw [mergeUpdate_mergesEarlier hs ha hb hf]
        simp only [pa, pb, if_pos hf]
        rfl
      · rw [mergeUpdate_mergesLater hs ha hb (Nat.lt_of_not_le hf)]
        simp only [pa, pb, if_neg hf]
        rfl
    · rintro before after rfl hl hp hb ha
      exact mergeUpdate_inserts hs hl hp hb ha
    · rintro before e after rfl hl hp hc hw hb ha
      exact mergeUpdate_replaces hs hl hp hc hw hb ha
    · intro q hpq h
      have hstronger : strongerPeak p q = true :=
        strongerPeak_iff.mpr (hpq.imp_right fun ⟨hpower, hdelay⟩ => ⟨congrArg Fin.val hpower, hdelay⟩)
      rcases h with ⟨before, e, after, rfl, hp, hq, hap, haq⟩ | ⟨hn, hap, haq⟩
      · have hmatch (d : Int) (hd : (e.delay - d).natAbs ≤ 4) (ha : apart d (before ++ after)) :
            matchOf (before ++ e :: after) d = some e :=
          matchOf_alone hd (fun x hx => ha x (List.mem_append_left _ hx)) fun x hx => ha x (List.mem_append_right _ hx)
        exact mergeUpdate_oneMatch hstronger (hmatch _ hp hap) (hmatch _ hq haq)
      · exact mergeUpdate_shadowed hstronger hs hn hap haq

/-! ## Spill (R34, R35) -/

theorem distanceOutside_clean {g : Nat} {w t : Int} (h : w - g ≤ t ∧ t ≤ w) : distanceOutside g w t = 0 := by
  rw [distanceOutside, if_neg (by omega), if_neg (by omega)]

theorem distanceOutside_outside {g : Nat} {w t : Int} (h : ¬(w - g ≤ t ∧ t ≤ w)) :
    distanceOutside g w t = if w < t then (t - w).toNat else (w - g - t).toNat := by
  unfold distanceOutside
  split
  · rfl
  · exact if_pos (by omega)

/-- Terms that vanish outside a part of the list may be left out of its sum. -/
theorem sum_map_filter {α : Type} (f : α → Nat) (p : α → Bool) {l : List α} (h : ∀ x ∈ l, p x = false → f x = 0) :
    (l.map f).sum = ((l.filter p).map f).sum := by
  induction l with
  | nil => rfl
  | cons x l ih =>
    obtain ⟨hx, hl⟩ := List.forall_mem_cons.mp h
    cases hp : p x with
    | true => rw [List.filter_cons_of_pos hp, List.map_cons, List.map_cons, List.sum_cons, List.sum_cons, ih hl]
    | false => rw [List.filter_cons_of_neg (by simp [hp]), List.map_cons, List.sum_cons, hx hp, ih hl, Nat.zero_add]

/-- A path spills at most its power. -/
theorem spillTerm_le (power x : Nat) : power * min x 64 / 64 ≤ power :=
  Nat.div_le_of_le_mul (by rw [Nat.mul_comm 64]; exact Nat.mul_le_mul_left _ (Nat.min_le_right ..))

/-- Settles O21: clean paths add nothing to the sum, and each of the others at most its power. -/
theorem spillSumsPathsOutside : Obligations.SpillSumsPathsOutside := by
  intro g paths w taking outside
  refine ⟨?sum, fun p _ h64 => ?whole, fun hlen hpower => ?bound⟩
  case sum =>
    have hclean : ∀ p ∈ taking, decide (¬(w - g ≤ p.delay ∧ p.delay ≤ w)) = false →
        p.power * min (distanceOutside g w p.delay) 64 / 64 = 0 := fun p _ h => by
      rw [distanceOutside_clean (by simpa using h)]; simp
    calc spill g paths w = (outside.map fun p => p.power * min (distanceOutside g w p.delay) 64 / 64).sum :=
          sum_map_filter _ _ hclean
      _ = _ := by
          refine congrArg List.sum (List.map_congr_left fun p hp => ?_)
          obtain ⟨-, hout⟩ := List.mem_filter.mp hp
          rw [distanceOutside_outside (of_decide_eq_true hout)]
  case whole => rw [Nat.min_eq_right h64, Nat.mul_div_cancel _ (by decide)]
  case bound =>
    have hsum := List.sum_le_card_nsmul (taking.map fun p => p.power * min (distanceOutside g w p.delay) 64 / 64) 65535
      (List.forall_mem_map.mpr fun p hp => (spillTerm_le ..).trans (hpower p hp))
    rw [List.length_map, smul_eq_mul] at hsum
    calc spill g paths w ≤ taking.length * 65535 := hsum
      _ ≤ 8 * 65535 := Nat.mul_le_mul_right _ hlen

/-! ## The target (R34, R36) -/

theorem windowTarget_eq (g : Nat) (paths : List Path) :
    windowTarget g paths = bestOf (lessBy (spill g paths) id) (windowCandidates g paths) := rfl

theorem mem_windowCandidates {g : Nat} {paths : List Path} {w : Int} :
    w ∈ windowCandidates g paths ↔ ∃ p ∈ participating paths, w = p.delay ∨ w = p.delay + g := by
  simp [windowCandidates]

/-- No candidate spills less than the target, nor as little at a smaller position (R36). -/
theorem windowTarget_some {g : Nat} {paths : List Path} {w : Int} (h : windowTarget g paths = some w) :
    w ∈ windowCandidates g paths ∧ ∀ v ∈ windowCandidates g paths,
      spill g paths w < spill g paths v ∨ (spill g paths w = spill g paths v ∧ w ≤ v) := by
  rw [windowTarget_eq] at h
  exact ⟨bestOf_mem h, bestOf_lessBy h⟩

theorem windowTarget_none {g : Nat} {paths : List Path} : windowTarget g paths = none ↔ participating paths = [] := by
  rw [windowTarget_eq, bestOf_eq_none, windowCandidates, List.flatMap_eq_nil_iff, List.eq_nil_iff_forall_not_mem]
  exact ⟨fun h p hp => (nomatch h p hp), fun h p hp => absurd hp (h p)⟩

theorem participating_none {paths : List Path} : participating paths = [] ↔ ∀ p ∈ paths, p.state = .new := by
  simp only [participating, List.filter_eq_nil_iff, decide_eq_true_iff]
  exact forall₂_congr fun p _ => by cases p.state <;> simp

/-- Settles O22: the target is the first best of the candidates. -/
theorem targetHasLeastSpill : Obligations.TargetHasLeastSpill := by
  intro g paths taking
  refine ⟨rfl, fun w hw => ?_, windowTarget_none.trans participating_none⟩
  obtain ⟨hmem, hbest⟩ := windowTarget_some hw
  exact ⟨mem_windowCandidates.mp hmem, fun p hp v hv => hbest v (mem_windowCandidates.mpr ⟨p, hp, hv⟩)⟩

end Sys2Proof.Machine

/-! # Proofs: what a command leaves of the window's position and of the path list (R25, R37 to R41)

A command leaves the applied and the pending position, the mark and the path list as they stand, falls back into SYMBOL with
the window unit's own reset values, or takes a symbol boundary that transfers the pending position. RESET and a profile update
stand apart. -/

namespace Sys2Proof.Machine

/-! ## Windows that agree, and what leaves them so -/

/-- The positions, the mark and the path list are the same. -/
def sameWindow (a b : Window) : Prop :=
  b.applied = a.applied ∧ b.pendingPos = a.pendingPos ∧ b.mark = a.mark ∧ b.paths = a.paths

theorem sameWindow.refl (a : Window) : sameWindow a a := ⟨rfl, rfl, rfl, rfl⟩

theorem sameWindow.of_eq {a b : Window} (h : b = a) : sameWindow a b := h ▸ .refl a

theorem sameWindow.trans {a b c : Window} (h : sameWindow a b) (h' : sameWindow b c) : sameWindow a c := by
  obtain ⟨happlied, hpending, hmark, hpaths⟩ := h
  obtain ⟨happlied', hpending', hmark', hpaths'⟩ := h'
  exact ⟨happlied'.trans happlied, hpending'.trans hpending, hmark'.trans hmark, hpaths'.trans hpaths⟩

theorem sameWindow.transfer {a b : Window} (h : sameWindow a b) : sameWindow (transferWindow a) (transferWindow b) := by
  obtain ⟨-, hpending, -, hpaths⟩ := h
  exact ⟨hpending, hpending, rfl, hpaths⟩

/-- `t` comes after `s` with the same window; the acquisition state is the same but for a fall from TRACK into HOLD, and
WINDOW_JUMP stays recorded. -/
structure Follows (s t : State) : Prop where
  window : sameWindow s.wu t.wu
  acq : t.gau.acq = s.gau.acq ∨ (s.gau.acq = .track ∧ t.gau.acq = .hold)
  jump : s.gau.causes.windowJump = true → t.gau.causes.windowJump = true

theorem Follows.refl (s : State) : Follows s s := ⟨.refl _, .inl rfl, id⟩

theorem Follows.trans {s t u : State} (h : Follows s t) (h' : Follows t u) : Follows s u where
  window := h.window.trans h'.window
  acq := by
    rcases h.acq with ha | ⟨hs, ha⟩ <;> rcases h'.acq with ha' | ⟨ht, ha'⟩
    · exact .inl (ha'.trans ha)
    · exact .inr ⟨ha.symm.trans ht, ha'⟩
    · exact .inr ⟨hs, ha'.trans ha⟩
    · exact .inr ⟨hs, ha'⟩
  jump := h'.jump ∘ h.jump

theorem Follows.acq_eq {s t : State} (h : Follows s t) (hs : s.gau.acq ≠ .track) : t.gau.acq = s.gau.acq :=
  h.acq.resolve_right fun ⟨ht, _⟩ => hs ht

theorem Follows.symbol_iff {s t : State} (h : Follows s t) : t.gau.acq = .symbol ↔ s.gau.acq = .symbol := by
  rcases h.acq with ha | ⟨hs, ha⟩ <;> simp [*]

theorem Follows.track {s t : State} (h : Follows s t) (ht : t.gau.acq = .track) : s.gau.acq = .track := by
  rcases h.acq with ha | ⟨hs, -⟩
  · exact ha.symm.trans ht
  · exact hs

/-- WINDOW_JUMP stays recorded over every run of moves (R17). -/
theorem Moves.windowJump {bs : List Block} {s t : State} (h : Moves bs s t) :
    s.gau.causes.windowJump = true → t.gau.causes.windowJump = true :=
  h.keeps (p := fun s => causePresent .windowJump s.gau.causes = true) fun _ _ h => h.causes

theorem follows_of_gau {s t : State} (hw : sameWindow s.wu t.wu) (hg : t.gau.acq = s.gau.acq)
    (hc : t.gau.causes = s.gau.causes) : Follows s t := ⟨hw, .inl hg, fun h => hc ▸ h⟩

theorem follows_reportCause (c : Cause) (s : State) : Follows s (reportCause c s) where
  window := .of_eq (reportCause_wu c s)
  acq := by
    rw [reportCause_gau]
    split
    · exact .inr ⟨‹_›, rfl⟩
    · exact .inl rfl
  jump := (moves_reportCause c s).windowJump

theorem follows_attempt (s : State) : Follows s (attempt s) := by
  apply follows_of_gau <;> simp [sameWindow]

theorem takeWaiting_wu (s : State) : (takeWaiting s).wu = s.wu := by simp

theorem follows_takeWaiting (s : State) : Follows s (takeWaiting s) where
  window := .of_eq (takeWaiting_wu s)
  jump := (moves_takeWaiting s).windowJump
  acq := by
    unfold takeWaiting
    split
    · exact .inl rfl
    · have record : (settleRecord s).gau = s.gau := by simp
      simp only [attempt_frame]
      unfold settleBurst
      split
      · rw [← record]
        exact (follows_reportCause .errorBurst
          { settleRecord s with waiting := { (settleRecord s).waiting with burst := false } }).acq
      · exact .inl (congrArg Gau.acq record)

theorem follows_takeSample (d : Sample) (s : State) : Follows s (takeSample d s) := by
  by_cases hi : s.gau.acq = .idle
  · rw [takeSample_idle d hi]; exact follows_of_gau (.refl _) rfl rfl
  · rw [takeSample_active d hi]
    obtain ⟨hacq, hcauses⟩ := gauSample_keeps (judged d s).1 (judged d s).2.out s.gau
    exact follows_of_gau ⟨rfl, rfl, rfl, rfl⟩ hacq hcauses

theorem follows_merEvent (mer : Int) (s : State) : Follows s (merEvent mer s) := by
  unfold merEvent
  split
  · exact follows_of_gau (.refl _) rfl rfl
  · exact .refl s

/-! ## Falls into SYMBOL (R41) -/

/-- SYMBOL has just been entered: no sample of a trial, no timing grid, and the window as at reset (R8, R41). -/
def enteredSymbol (t : State) : Prop :=
  t.gau.acq = .symbol ∧ t.gau.trialSamples = #[] ∧ t.wu.grid = none ∧ sameWindow Window.reset t.wu

theorem entered_enterSymbol (s : State) : enteredSymbol (enterSymbol s) := by
  rw [enteredSymbol, enterSymbol_gau, enterSymbol_wu]
  exact ⟨rfl, rfl, rfl, .refl _⟩

theorem noCountDue_symbol {s : State} (h : s.gau.acq = .symbol) : noCountDue s := by
  simp [noCountDue, passDue, holdLimitDue, h]

theorem countPass_cases (s : State) : Follows s (countPass s) ∨ enteredSymbol (countPass s) := by
  by_cases h : s.gau.passCount < 2
  · rw [countPass_counted h]; exact .inl (follows_of_gau (.refl _) rfl rfl)
  · rw [countPass_third (by omega)]; exact .inr (entered_enterSymbol _)

theorem takePass_cases (s : State) : Follows s (takePass s) ∨ enteredSymbol (takePass s) := by
  have count : Follows s { s with gau := { s.gau with searchCount := 0 } } := follows_of_gau (.refl _) rfl rfl
  exact (countPass_cases { s with gau := { s.gau with searchCount := 0 } }).imp_left count.trans

theorem settlePass_cases (s : State) : Follows s (settlePass s) ∨ enteredSymbol (settlePass s) := by
  unfold settlePass
  split
  · exact takePass_cases s
  · exact .inl (.refl s)

theorem settleFrameCounts_cases (s : State) : Follows s (settleFrameCounts s) ∨ enteredSymbol (settleFrameCounts s) := by
  unfold settleFrameCounts
  split
  · exact takePass_cases s
  · split
    · exact .inr (entered_enterSymbol _)
    · exact .inl (.refl s)

/-! ## A symbol boundary (R38, R39) -/

theorem follows_counted (s : State) : Follows s (counted s) := by
  have hpaths : (counted s).wu.paths = s.wu.paths := by
    show (advanceCounters s.wu).paths = s.wu.paths
    unfold advanceCounters; split <;> (try split) <;> rfl
  obtain ⟨happlied, hmark, hpending, -⟩ := counted_window s
  obtain ⟨-, hcauses, -⟩ := gauBoundary_keeps s.gau
  exact follows_of_gau ⟨happlied, hpending, hmark, hpaths⟩ (counted_acq s) hcauses

theorem follows_blankerBoundary (s : State) : Follows s (blankerBoundary s) where
  window := by
    obtain ⟨n, h⟩ := blankerBoundary_wu s
    rw [h]; exact ⟨rfl, rfl, rfl, rfl⟩
  jump := (moves_blankerBoundary s).windowJump
  acq := by
    rcases blankerBoundary_cases s with h | h | ⟨e, h⟩ <;> rw [h]
    · exact .inl rfl
    · exact .inl rfl
    · rw [closeSymbol_eq]
      split
      · exact (follows_reportCause .erasureBurst (symbolClosed e s)).acq
      · exact .inl rfl

/-- In TRACK the pending position has become the applied one: a STEP's, or a JUMP's at a frame boundary `f`, which is recorded
(R38, R39). -/
structure Transferred (f : Bool) (s t : State) : Prop where
  track : s.gau.acq = .track
  window : sameWindow (transferWindow s.wu) t.wu
  mark : s.wu.mark = .step ∨ (f = true ∧ t.gau.causes.windowJump = true)

theorem windowBoundary_outcome (f : Bool) (s : State) :
    Follows s (windowBoundary f s) ∨ Transferred f s (windowBoundary f s) := by
  by_cases ht : s.gau.acq = .track
  · cases hm : s.wu.mark with
    | none => rw [windowBoundary_unmarked hm]; exact .inl (.refl s)
    | step => rw [windowBoundary_step ht hm]; exact .inr ⟨ht, .refl _, .inl hm⟩
    | jump =>
      cases f with
      | false => rw [windowBoundary_jumpWaits hm]; exact .inl (.refl s)
      | true =>
        rw [windowBoundary_jump ht hm]
        refine .inr ⟨ht, .of_eq (reportCause_wu _ _), .inr ⟨rfl, ?_⟩⟩
        rw [reportCause_gau]; split <;> rfl
  · rw [windowBoundary_other ht]; exact .inl (.refl s)

theorem Transferred.before {f : Bool} {s t u : State} (h : Follows s t) (h' : Transferred f t u) : Transferred f s u where
  track := h.track h'.track
  window := h.window.transfer.trans h'.window
  mark := by
    obtain ⟨-, -, hmark, -⟩ := h.window
    exact hmark ▸ h'.mark

theorem Transferred.follow {f : Bool} {s t u : State} (h : Transferred f s t) (h' : Follows t u) : Transferred f s u where
  track := h.track
  window := h.window.trans h'.window
  mark := h.mark.imp_right fun ⟨hf, hj⟩ => ⟨hf, h'.jump hj⟩

/-- Whichever part comes first, a boundary leaves the window or transfers it. -/
theorem takeBoundary_outcome (b : Bool) (s : State) :
    Follows s (takeBoundary b s) ∨ Transferred (isFrameBoundary s.wu) s (takeBoundary b s) := by
  have hcount := follows_counted s
  cases b with
  | true =>
    have hblank := follows_blankerBoundary (windowBoundary (isFrameBoundary s.wu) (counted s))
    exact (windowBoundary_outcome _ (counted s)).imp (fun h => hcount.trans (h.trans hblank))
      fun h => (h.before hcount).follow hblank
  | false =>
    have hblank := hcount.trans (follows_blankerBoundary (counted s))
    exact (windowBoundary_outcome _ (blankerBoundary (counted s))).imp hblank.trans (.before hblank)

/-! ## What a command can do to the window -/

/-- What becomes of the window between two states; a boundary transfers it only where `p`. -/
inductive WindowShift (p : Prop) (s t : State) : Prop
  | kept (h : sameWindow s.wu t.wu)
  /-- SYMBOL is entered (R39, R41). -/
  | fell (hs : s.gau.acq ≠ .symbol) (ht : t.gau.acq = .symbol) (h : sameWindow Window.reset t.wu)
  /-- A symbol boundary due in TRACK transfers the pending position (R38, R39). -/
  | moved (hp : p) (hd : boundaryDue s.wu = true) (h : Transferred (isFrameBoundary s.wu) s t)

theorem WindowShift.follow {p : Prop} {s t u : State} (h : WindowShift p s t) (h' : Follows t u) : WindowShift p s u := by
  cases h with
  | kept h => exact .kept (h.trans h'.window)
  | fell hs ht h => exact .fell hs (h'.symbol_iff.mpr ht) (h.trans h'.window)
  | moved hp hd h => exact .moved hp hd (h.follow h')

theorem WindowShift.before {p : Prop} {s t u : State} (h : Follows s t) (hw : t.wu = s.wu) (h' : WindowShift p t u) :
    WindowShift p s u := by
  cases h' with
  | kept h' => exact .kept (h.window.trans h')
  | fell hs ht h' => exact .fell (fun hn => hs (h.symbol_iff.mpr hn)) ht h'
  | moved hp hd h' => rw [hw] at hd h'; exact .moved hp hd (h'.before h)

theorem WindowShift.of_entered {p : Prop} {s t : State} (hs : s.gau.acq ≠ .symbol) (h : enteredSymbol t) :
    WindowShift p s t := by
  obtain ⟨hacq, -, -, hwindow⟩ := h
  exact .fell hs hacq hwindow

/-- What comes after leaves the window, or enters SYMBOL. -/
theorem WindowShift.settle {p : Prop} {s t u : State} (hs : s.gau.acq ≠ .symbol) (h : WindowShift p s t)
    (h' : Follows t u ∨ enteredSymbol u) : WindowShift p s u :=
  h'.elim h.follow (.of_entered hs)

theorem shift_of_cases {p : Prop} {s t : State} (hs : s.gau.acq ≠ .symbol) (h : Follows s t ∨ enteredSymbol t) :
    WindowShift p s t :=
  WindowShift.settle hs (.kept (.refl _)) h

/-- A gated command shifts the window as its own effect does. -/
theorem shift_of_gated {p : Prop} {f : State → State} {s t : State} (h : whenRunning f s = .next t)
    (hf : WindowShift p s (f s)) : WindowShift p s t := by
  unfold whenRunning at h
  split at h <;> cases h
  · exact .kept (.refl _)
  · exact hf.follow (follows_takeWaiting _)

/-! ### Symbol boundaries and the reports after them -/

theorem follows_boundaryEvent {b : Bool} {s : State} (hn : noCountDue s) (ht : s.gau.acq ≠ .track) :
    Follows s (boundaryEvent b s) := by
  by_cases hd : boundaryDue s.wu = true
  · rw [boundaryEvent_due hn hd]
    exact (takeBoundary_outcome b s).resolve_right fun h => ht h.track
  · rw [boundaryEvent_settled b hn (by simpa using hd)]; exact .refl s

theorem boundaryEvent_entered {b : Bool} {s : State} (h : enteredSymbol s) : boundaryEvent b s = s := by
  obtain ⟨hacq, -, hgrid, -⟩ := h
  exact boundaryEvent_settled b (noCountDue_symbol hacq) (by simp [boundaryDue, hgrid])

/-- A frame count due is settled first; in TRACK none is. -/
theorem boundaryEvent_settling (b : Bool) (s : State) (h : s.gau.acq ≠ .track) :
    Follows s (boundaryEvent b s) ∨ enteredSymbol (boundaryEvent b s) := by
  unfold boundaryEvent
  dsimp only
  rcases settleFrameCounts_cases s with hf | he
  · refine .inl ?_
    split
    · refine hf.trans ((takeBoundary_outcome b _).resolve_right fun ht => h (hf.track ht.track))
    · exact hf
  · obtain ⟨-, -, hgrid, -⟩ := id he
    rw [if_neg (by simp [boundaryDue, hgrid])]
    exact .inr he

theorem shift_boundaryEvent (b : Bool) (s : State) : WindowShift True s (boundaryEvent b s) := by
  by_cases ht : s.gau.acq = .track
  · by_cases hd : boundaryDue s.wu = true
    · rw [boundaryEvent_due (noCountDue_track ht) hd]
      exact (takeBoundary_outcome b s).elim (fun h => .kept h.window) (.moved trivial hd)
    · rw [boundaryEvent_settled b (noCountDue_track ht) (by simpa using hd)]
      exact .kept (.refl _)
  · by_cases hs : s.gau.acq = .symbol
    · exact .kept (follows_boundaryEvent (noCountDue_symbol hs) ht).window
    · exact shift_of_cases hs (boundaryEvent_settling b s ht)

theorem WindowShift.mono {p q : Prop} {s t : State} (hpq : p → q) (h : WindowShift p s t) : WindowShift q s t := by
  cases h with
  | kept h => exact .kept h
  | fell hs ht h => exact .fell hs ht h
  | moved hp hd h => exact .moved (hpq hp) hd h

theorem shift_boundaryBefore (b : Bool) (s : State) : WindowShift (b = true) s (boundaryBefore b s) := by
  unfold boundaryBefore
  split
  · rename_i h
    have hb : b = true := (Bool.and_eq_true_iff.mp h).1
    exact ((shift_boundaryEvent true s).mono fun _ => hb).follow (follows_attempt _)
  · exact .kept (.refl _)

theorem follows_confirmSync (s : State) : Follows s (confirmSync s) := by
  unfold confirmSync
  split
  · exact follows_of_gau ⟨rfl, rfl, rfl, rfl⟩ rfl rfl
  · exact .refl s

theorem takeSyncFound_cases (s : State) : Follows s (takeSyncFound s) ∨ enteredSymbol (takeSyncFound s) := by
  unfold takeSyncFound
  rcases settlePass_cases s with h | h
  · exact .inl (h.trans (follows_confirmSync _))
  · have hacq : ¬((settlePass s).gau.acq = .frame ∧ (settlePass s).gau.subState = .search) := by simp [h.1]
    rw [confirmSync_other hacq]
    exact .inr h

theorem shift_takeSyncFound (b : Bool) (s : State) :
    WindowShift (b = true) s (takeSyncFound (boundaryBefore b s)) := by
  have hbefore := shift_boundaryBefore b s
  by_cases hs : s.gau.acq = .symbol
  · have hfollows : Follows s (boundaryBefore b s) := by
      unfold boundaryBefore
      split
      · exact (follows_boundaryEvent (noCountDue_symbol hs) (by rw [hs]; exact nofun)).trans (follows_attempt _)
      · exact .refl s
    have hacq := hfollows.symbol_iff.mpr hs
    rw [takeSyncFound_other (by simp [hacq])]
    exact hbefore
  · exact hbefore.settle hs (takeSyncFound_cases _)

/-! ### Gain measurements and trials -/

theorem follows_clipMeasured (step : Int) (s : State) : Follows s (clipMeasured step s) := by
  have cleared : Follows s { s with gau := { s.gau with clipRun := 0 } } := follows_of_gau (.refl _) rfl rfl
  unfold clipMeasured
  split
  · split
    · exact cleared.trans (follows_reportCause _ _)
    · exact follows_of_gau (.refl _) rfl rfl
  · exact cleared

theorem clipMeasured_wu (step : Int) (s : State) : (clipMeasured step s).wu = s.wu := by
  unfold clipMeasured
  split
  · split
    · exact reportCause_wu _ _
    · rfl
  · rfl

/-- `t` follows `s` and has its window unit untouched. -/
def leavesWindow (s t : State) : Prop := Follows s t ∧ t.wu = s.wu

theorem leavesWindow.trans {s t u : State} (h : leavesWindow s t) (h' : leavesWindow t u) : leavesWindow s u :=
  ⟨h.1.trans h'.1, h'.2.trans h.2⟩

theorem enterGain_wu (s : State) : (enterGain s).wu = s.wu := by simp

theorem gainMeasured_cases (e : Option Int) {s : State} (ha : s.gau.acq = .gain) :
    leavesWindow s (gainMeasured e s) ∨ enteredSymbol (gainMeasured e s) := by
  rw [gainMeasured_eq]
  split
  · exact .inr (entered_enterSymbol _)
  · refine .inl ?_
    split
    · refine ⟨follows_of_gau (.of_eq (enterGain_wu _)) ?_ ?_, enterGain_wu _⟩ <;> rw [enterGain_gau]
      · exact ha.symm
      · rfl
    · exact ⟨follows_of_gau (.refl _) rfl rfl, rfl⟩

theorem leavesWindow_fullyMeasured (s : State) : leavesWindow s (fullyMeasured s) := by
  obtain ⟨_, -, h⟩ := fullyMeasured_eq s
  rw [h]
  exact ⟨follows_of_gau (.refl _) rfl rfl, rfl⟩

theorem measureIfDue_cases (s : State) :
    leavesWindow s (measureIfDue s) ∨ (s.gau.acq = .gain ∧ enteredSymbol (measureIfDue s)) := by
  have void : leavesWindow s (voidMeasured s) := ⟨follows_of_gau (.refl _) rfl rfl, rfl⟩
  have full := leavesWindow_fullyMeasured s
  unfold measureIfDue
  split
  · cases hv : blockVoid s.gau with
    | true =>
      rw [takeMeasurement_void hv]
      split
      · rename_i ha
        exact (gainMeasured_cases none (s := voidMeasured s) ha).imp void.trans fun h => ⟨ha, h⟩
      · exact .inl void
    | false =>
      rw [takeMeasurement_full hv]
      split
      · rename_i ha
        exact (gainMeasured_cases _ ((fullyMeasured_acq s).trans ha)).imp full.trans fun h => ⟨ha, h⟩
      · refine .inl ?_
        split
        · exact full.trans ⟨follows_clipMeasured _ _, clipMeasured_wu _ _⟩
        · exact full
  · exact .inl ⟨.refl s, rfl⟩

theorem endTrialIfDue_other {s : State} (h : s.gau.acq ≠ .symbol ∨ s.gau.trialSamples = #[]) : endTrialIfDue s = s := by
  refine if_neg fun hd => ?_
  obtain ⟨ha, hsize⟩ := of_decide_eq_true hd
  rcases h with h | h
  · exact h ha
  · rw [h] at hsize; exact absurd hsize (by decide)

/-- Where a trial may leave a station: in SYMBOL or GAIN, or in a SEARCH that has counted no symbol (R9, R11). -/
def afterTrial (s : State) : Prop :=
  s.gau.acq = .symbol ∨ s.gau.acq = .gain ∨ (s.gau.acq = .frame ∧ s.gau.subState = .search ∧ s.gau.searchCount = 0)

theorem endTrialIfDue_symbol {s : State} (hs : s.gau.acq = .symbol) :
    sameWindow s.wu (endTrialIfDue s).wu ∧ afterTrial (endTrialIfDue s) := by
  unfold endTrialIfDue
  split
  · cases hc : trialChoice s with
    | some t =>
      rw [takeTrialEnd_some hc, afterTrial, enterFrameSearch_gau, enterFrameSearch_wu]
      exact ⟨⟨rfl, rfl, rfl, rfl⟩, .inr (.inr ⟨rfl, rfl, rfl⟩)⟩
    | none =>
      rw [takeTrialEnd_none hc]
      unfold failTrial
      dsimp only
      split
      · rw [afterTrial, enterGain_gau, enterGain_wu _]
        exact ⟨.refl _, .inr (.inl rfl)⟩
      · exact ⟨.refl _, .inl hs⟩
  · exact ⟨.refl _, .inl hs⟩

/-- The boundary after a trial leaves the window, and brings no frame pass or hold limit. -/
theorem boundaryEvent_afterTrial {s : State} (h : afterTrial s) :
    Follows s (boundaryEvent true s) ∧ noCountDue (boundaryEvent true s) := by
  have hn : noCountDue s := by rcases h with h | h | ⟨ha, hsub, hc⟩ <;> simp [noCountDue, passDue, holdLimitDue, *]
  have ht : s.gau.acq ≠ .track := by rcases h with h | h | ⟨h, -, -⟩ <;> rw [h] <;> exact nofun
  have hf : Follows s (boundaryEvent true s) := follows_boundaryEvent hn ht
  refine ⟨hf, ?_⟩
  have hacq := hf.acq_eq ht
  rcases h with h | h | ⟨ha, hsub, hc⟩
  · exact noCountDue_symbol (hacq.trans h)
  · simp [noCountDue, passDue, holdLimitDue, hacq, h]
  · by_cases hd : boundaryDue s.wu = true
    · obtain ⟨causes, carried, hgau⟩ := takeBoundary_search ha hsub
      rw [boundaryEvent_due hn hd]
      simp [noCountDue, passDue, holdLimitDue, hgau, ha, hc]
    · rwa [boundaryEvent_settled true hn (by simpa using hd)]

/-- All that is due before a sample shifts the window as a boundary does. -/
theorem shift_settleSamples (s : State) : WindowShift True s (settleSamples s) := by
  have hib : leavesWindow s { s with ib := settleBlanker s.cfg.runEnd s.ib } := ⟨follows_of_gau (.refl _) rfl rfl, rfl⟩
  unfold settleSamples
  rcases measureIfDue_cases { s with ib := settleBlanker s.cfg.runEnd s.ib } with hm | ⟨hg, he⟩
  · obtain ⟨hf, hwu⟩ := hib.trans hm
    by_cases hs : s.gau.acq = .symbol
    · obtain ⟨htrial, hafter⟩ := endTrialIfDue_symbol (hf.symbol_iff.mpr hs)
      obtain ⟨hboundary, hcounts⟩ := boundaryEvent_afterTrial hafter
      rw [settleFrameCounts_settled hcounts]
      exact .kept (hf.window.trans (htrial.trans hboundary.window))
    · rw [endTrialIfDue_other (.inl fun h => hs (hf.symbol_iff.mp h))]
      exact ((shift_boundaryEvent true _).before hf hwu).settle hs (settleFrameCounts_cases _)
  · obtain ⟨hacq, hempty, -, -⟩ := id he
    rw [endTrialIfDue_other (.inr hempty), boundaryEvent_entered he, settleFrameCounts_settled (noCountDue_symbol hacq)]
    exact .of_entered (fun hs => by cases hg.symm.trans hs) he

/-! ### Frame checks -/

theorem checkInConfirm_cases (r : FrameReport) (s : State) :
    sameWindow s.wu (checkInConfirm r s).wu ∨ enteredSymbol (checkInConfirm r s) := by
  by_cases hagree : r.syncPresent = true ∧ ∃ g, r.signalling = some g ∧ s.gau.candidate = some g
  · obtain ⟨sync, sig⟩ := r
    obtain ⟨rfl, g, rfl, hc⟩ := hagree
    rw [checkInConfirm_agrees hc]
    exact .inl (.of_eq (by simp))
  · have hdis : r.syncPresent = true → r.signalling = none ∨ r.signalling ≠ s.gau.candidate := by
      intro hp
      cases hsig : r.signalling with
      | none => exact .inl rfl
      | some g => exact .inr fun he => hagree ⟨hp, g, hsig, he.symm⟩
    rw [checkInConfirm_disagrees hdis]
    exact (countPass_cases { s with gau := disagreed r s.gau }).imp_left fun h => h.window

theorem signallingChanged_wu (g : Signalling) (s : State) : (signallingChanged g s).wu = s.wu := by
  simp [signallingChanged]

theorem checkInTrack_wu (r : FrameReport) (s : State) : (checkInTrack r s).wu = s.wu := by
  unfold checkInTrack
  split
  · split
    · rfl
    · split
      · rfl
      · exact signallingChanged_wu _ s
  · split
    · simp
    · rfl

theorem checkInHold_wu (r : FrameReport) (s : State) : (checkInHold r s).wu = s.wu := by
  unfold checkInHold
  split
  · split
    · simp
    · split
      · simp
      · exact signallingChanged_wu _ s
  · rfl

theorem shift_takeFrameCheck {p : Prop} (r : FrameReport) (s : State) : WindowShift p s (takeFrameCheck r s) := by
  unfold takeFrameCheck
  split
  case h_1 ha =>
    split
    · exact (checkInConfirm_cases r s).elim .kept (.of_entered (by rw [ha]; exact nofun))
    · exact .kept (.refl _)
  case h_2 => exact .kept (.of_eq (checkInTrack_wu r s))
  case h_3 => exact .kept (.of_eq (checkInHold_wu r s))
  all_goals exact .kept (.refl _)

/-! ### Every command -/

theorem Begins.wu {c : Instr} {s u : State} (h : Begins c s u) : u.wu = s.wu := by
  cases h with
  | plain | silence | leave | fetch | report => rfl
  | complete l => rw [completeFetch_eq]; exact enterGain_wu _

/-- A command that does not reach the window unit leaves it as it stands. -/
theorem exec_wu {c : Instr} {s t : State} (hc : c ≠ .reset) (hw : .wu ∉ blocksOf c) (h : exec c s = .next t) :
    t.wu = s.wu := by
  obtain ⟨u, v, hu, hm, ht⟩ := exec_brings hc h
  have hv : v.wu = s.wu := (hm.changesOnly.same hw).trans hu.wu
  rcases ht with rfl | ⟨-, rfl⟩
  · exact hv
  · exact (takeWaiting_wu v).trans hv

/-- The commands in whose course a symbol boundary may be taken (assumption logs 8 and 10). -/
def takesBoundary (c : Instr) : Prop :=
  (∃ b, c = .symbolBoundary b) ∨ (∃ d, c = .sample d) ∨ (∃ m, c = .merMeasurement m true) ∨ c = .syncFound true

/-- A profile update that is taken or set aside, in TRACK or HOLD (R26). -/
def updatesWindow (c : Instr) (s t : State) : Prop :=
  ∃ peaks g, c = .profileUpdate peaks ∧ (s.gau.acq = .track ∨ s.gau.acq = .hold)
    ∧ t.wu = takeProfile g s.cfg.slew s.cfg.peakThreshold peaks s.wu

theorem exec_profileUpdate_window {peaks : List Peak} {s t : State} (h : execProfileUpdate peaks s = .next t) :
    sameWindow s.wu t.wu ∨ updatesWindow (.profileUpdate peaks) s t := by
  unfold execProfileUpdate whenRunning at h
  split at h <;> cases h
  · exact .inl (.refl _)
  · simp only [takeWaiting_frame, updatesWindow]
    split
    · rename_i ha
      unfold takeUpdate
      split
      · exact .inl (.refl _)
      · exact .inr ⟨peaks, _, rfl, takesProfiles_iff.mp ha, rfl⟩
    · exact .inl (.refl _)

/-- What every command but RESET and a profile update does to the window. -/
theorem exec_shift {c : Instr} {s t : State} (hr : c ≠ .reset) (hu : ∀ peaks, c ≠ .profileUpdate peaks)
    (h : exec c s = .next t) : WindowShift (takesBoundary c) s t := by
  cases c with
  | reset => exact absurd rfl hr
  | profileUpdate peaks => exact absurd rfl (hu peaks)
  | sample d =>
    refine shift_of_gated (f := fun s => takeSample d (attempt (settleSamples s))) h ?_
    exact ((shift_settleSamples s).mono fun _ => .inr (.inl ⟨d, rfl⟩)).follow
      ((follows_attempt _).trans (follows_takeSample d _))
  | symbolBoundary b =>
    refine shift_of_gated (f := fun s => attempt (boundaryEvent b s)) h ?_
    exact ((shift_boundaryEvent b s).mono fun _ => .inl ⟨b, rfl⟩).follow (follows_attempt _)
  | merMeasurement m b =>
    refine shift_of_gated (f := fun s => merEvent m (boundaryBefore b s)) h ?_
    exact ((shift_boundaryBefore b s).mono fun hb => .inr (.inr (.inl ⟨m, by rw [hb]⟩))).follow (follows_merEvent m _)
  | syncFound b =>
    refine shift_of_gated (f := fun s => takeSyncFound (boundaryBefore b s)) h ?_
    exact (shift_takeSyncFound b s).mono fun hb => .inr (.inr (.inr (by rw [hb])))
  | gainMeasurement =>
    refine shift_of_gated (f := fun s => attempt (measureIfDue s)) h (WindowShift.follow ?_ (follows_attempt _))
    rcases measureIfDue_cases s with ⟨hf, -⟩ | ⟨hg, he⟩
    · exact .kept hf.window
    · exact .of_entered (by rw [hg]; exact nofun) he
  | trialEnd =>
    refine shift_of_gated h ?_
    by_cases hs : s.gau.acq = .symbol
    · exact .kept (endTrialIfDue_symbol hs).1
    · rw [endTrialIfDue_other (.inl hs)]; exact .kept (.refl _)
  | framePass =>
    refine shift_of_gated (f := fun s => if passDue s then takePass s else s) h ?_
    split
    · rename_i hd
      exact shift_of_cases (by rw [(passDue_iff.mp hd).1]; exact nofun) (takePass_cases s)
    · exact .kept (.refl _)
  | holdLimit =>
    refine shift_of_gated (f := fun s => if holdLimitDue s then attempt (takeHoldLimit s) else s) h ?_
    split
    · rename_i hd
      exact (WindowShift.of_entered (by rw [(holdLimitDue_iff.mp hd).1]; exact nofun) (entered_enterSymbol _)).follow
        (follows_attempt _)
    · exact .kept (.refl _)
  | frameCheck r =>
    exact shift_of_gated (f := fun s => attempt (takeFrameCheck r s)) h
      ((shift_takeFrameCheck r s).follow (follows_attempt _))
  | _ => exact .kept (.of_eq (exec_wu hr (by simp [blocksOf, roleBlocks]) h))

/-! ## The path list (R25) -/

theorem pathsSound_takeProfile {g slew threshold : Nat} {peaks : List Peak} {wu : Window} (h : pathsSound wu.paths) :
    pathsSound (takeProfile g slew threshold peaks wu).paths := by
  by_cases h2 : 2 ≤ wu.erasedCount
  · rwa [takeProfile_aside h2]
  · obtain ⟨-, hpaths, -⟩ := placeWindow_keeps g slew (merged threshold peaks wu)
    rw [takeProfile_taken (by omega), hpaths]
    exact pathsSound_mergeUpdate reportedPeaks_inRange h

theorem pathsSound_nil : pathsSound [] := ⟨Nat.zero_le 8, .nil, nofun⟩

theorem exec_keeps_pathsSound {c : Instr} {s t : State} (hs : pathsSound s.wu.paths) (h : exec c s = .next t) :
    pathsSound t.wu.paths := by
  by_cases hr : c = .reset
  · subst hr; rw [exec_reset_next h]; exact pathsSound_nil
  · by_cases hu : ∃ peaks, c = .profileUpdate peaks
    · obtain ⟨peaks, rfl⟩ := hu
      rcases exec_profileUpdate_window h with ⟨-, -, -, hp⟩ | ⟨_, g, -, -, hw⟩
      · rwa [hp]
      · rw [hw]; exact pathsSound_takeProfile hs
    · cases exec_shift hr (not_exists.mp hu) h with
      | kept h => obtain ⟨-, -, -, hp⟩ := h; rwa [hp]
      | fell _ _ h => obtain ⟨-, -, -, hp⟩ := h; rw [hp]; exact pathsSound_nil
      | moved _ _ h => obtain ⟨-, -, -, hp⟩ := h.window; rw [hp]; exact hs

/-- Settles O54: only a profile update changes entries of the path list, and its merge keeps them sound. -/
theorem stepKeepsPathListSpaced : Obligations.StepKeepsPathListSpaced := by
  intro s t hs h
  rcases step_next h with rfl | ⟨c, rest, hc⟩
  · exact hs
  · exact exec_keeps_pathsSound (s := { s with pending := rest }) hs hc

/-! ## The applied position (R37 to R39) -/

theorem windowSound_of_unmarked {s : State} (h : s.wu.mark = .none) : windowSound s :=
  ⟨fun _ => h, fun hs => by rw [h] at hs; cases hs⟩

/-- What a command leaves of the configuration once it is complete (R187). -/
theorem exec_configured {c : Instr} {s t : State} (hc : c ≠ .reset) (hl : s.loader.state = .complete)
    (h : exec c s = .next t) : t.loader.state = .complete ∧ t.cfg = s.cfg := by
  obtain ⟨u, v, hu, hm, ht⟩ := exec_brings hc h
  have hbegin : u.loader.state = .complete ∧ u.cfg = s.cfg := by
    cases hu with
    | plain | silence | report => exact ⟨hl, rfl⟩
    | leave => exact ⟨hl, rfl⟩
    | fetch _ _ _ _ hn | complete _ _ hn => exact absurd hl hn
  have hmove : ∀ (bs : List Block) (a b : State), Move bs a b → a.loader.state = .complete ∧ a.cfg = s.cfg →
      b.loader.state = .complete ∧ b.cfg = s.cfg := fun bs a b hab ⟨hstate, hcfg⟩ => by
    refine ⟨hab.loader ▸ hstate, Eq.trans ?_ hcfg⟩
    cases hab with
    | quiet h | credit h => obtain ⟨-, -, hcfg, -⟩ := h; exact hcfg
    | record | acq | grade => rfl
    | role | own => simp
  have hv := hm.keeps (hmove _) hbegin
  rcases ht with rfl | ⟨-, rfl⟩
  · exact hv
  · simpa using hv

/-- A window left as it stands stays sound. -/
theorem windowSound_of_same {c : Instr} {s t : State} (hc : c ≠ .reset) (hs : windowSound s)
    (hw : sameWindow s.wu t.wu) (h : exec c s = .next t) : windowSound t := by
  obtain ⟨happlied, hpending, hmark, -⟩ := hw
  obtain ⟨hnone, hstep⟩ := hs
  by_cases hl : s.loader.state = .complete
  · obtain ⟨hstate, hcfg⟩ := exec_configured hc hl h
    exact ⟨fun hn => absurd hstate hn, fun hm => by rw [hpending, happlied, hcfg]; exact hstep (hmark.symm.trans hm)⟩
  · exact windowSound_of_unmarked (hmark.trans (hnone hl))

/-- A STEP that an update leaves pending lies within the slew of the applied position, which the update leaves (R37). -/
theorem takeProfile_step {g slew threshold : Nat} {peaks : List Peak} {wu : Window}
    (hs : wu.mark = .step → (wu.pendingPos - wu.applied).natAbs ≤ slew) :
    (takeProfile g slew threshold peaks wu).applied = wu.applied
      ∧ ((takeProfile g slew threshold peaks wu).mark = .step →
        ((takeProfile g slew threshold peaks wu).pendingPos - wu.applied).natAbs ≤ slew) := by
  by_cases h2 : 2 ≤ wu.erasedCount
  · rw [takeProfile_aside h2]; exact ⟨rfl, hs⟩
  · rw [takeProfile_taken (by omega)]
    obtain ⟨-, -, happlied, -⟩ := placeWindow_keeps g slew (merged threshold peaks wu)
    refine ⟨happlied, fun hm => ?_⟩
    cases hw : windowTarget g (merged threshold peaks wu).paths with
    | none => rw [placeWindow_none hw] at hm ⊢; exact hs hm
    | some w =>
      by_cases hn : 2 * (w - (merged threshold peaks wu).applied).natAbs ≤ g
      · obtain ⟨-, hpending⟩ := placeWindow_near (slew := slew) hw hn
        have hsame : (merged threshold peaks wu).applied = wu.applied := rfl
        rw [hpending, hsame]; omega
      · obtain ⟨hjump, -⟩ := placeWindow_far (slew := slew) hw (by omega)
        rw [hjump] at hm; cases hm

theorem isFrameBoundary_index {wu : Window} (h : isFrameBoundary wu = true) : 63 ≤ wu.symbolIndex := by
  simp only [isFrameBoundary, Bool.and_eq_true, decide_eq_true_eq] at h
  exact h.2

/-- Settles O57: the window is left, reset on entry into SYMBOL, or transferred at a boundary due in TRACK. -/
theorem appliedPositionMovesBySlewOrJump : Obligations.AppliedPositionMovesBySlewOrJump := by
  intro c s t hstart hs h
  by_cases hr : c = .reset
  · subst hr
    rw [exec_reset_next h]
    exact ⟨windowSound_of_unmarked rfl, .inr (.inl ⟨rfl, .inl rfl⟩)⟩
  have kept (hw : sameWindow s.wu t.wu) : windowSound t ∧ t.wu.applied = s.wu.applied :=
    ⟨windowSound_of_same hr hs hw h, hw.1⟩
  by_cases hu : ∃ peaks, c = .profileUpdate peaks
  · obtain ⟨peaks, rfl⟩ := hu
    rcases exec_profileUpdate_window h with hw | ⟨peaks', g, -, ha, hw⟩
    · exact (kept hw).imp_right .inl
    · have hl : s.loader.state = .complete := by
        by_contra hn
        rw [(hstart hn).1] at ha
        rcases ha with ha | ha <;> cases ha
      obtain ⟨hstate, hcfg⟩ := exec_configured hr hl h
      obtain ⟨happlied, hstep⟩ := takeProfile_step (g := g) (threshold := s.cfg.peakThreshold) (peaks := peaks') hs.2
      rw [← hw] at happlied hstep
      exact ⟨⟨fun hn => absurd hstate hn, by rw [happlied, hcfg]; exact hstep⟩, .inl happlied⟩
  · cases exec_shift hr (not_exists.mp hu) h with
    | kept hw => exact (kept hw).imp_right .inl
    | fell hns ht hw =>
      obtain ⟨happlied, -, hmark, -⟩ := hw
      exact ⟨windowSound_of_unmarked hmark, .inr (.inl ⟨happlied, .inr ⟨hns, ht⟩⟩)⟩
    | moved hp hd ht =>
      obtain ⟨happlied, -, hmark, -⟩ := ht.window
      refine ⟨windowSound_of_unmarked hmark, .inr (.inr ⟨hp, ht.track, hd, ?_⟩)⟩
      rw [happlied]
      exact ht.mark.imp hs.2 fun ⟨hf, hj⟩ => ⟨isFrameBoundary_index hf, hj⟩

end Sys2Proof.Machine

/-! # Proofs: run ends and the impulse prediction (R46, R47, R52 to R55) -/

namespace Sys2Proof.Machine

/-! ## Commands that move the blanker alone -/

/-- A gated command that only ever moves the blanker, and only when something is due, leaves nothing on its way. -/
theorem whenRunning_blanker (due : State → Bool) (f : Blanker → Blanker) {s : State} (hr : running s) :
    whenRunning (fun s => if due s then { s with ib := f s.ib } else s) s =
      .next (if due s then { s with ib := f s.ib } else s) :=
  whenRunning_running hr (by split <;> rfl)

theorem exec_runEnd {s : State} (hr : running s) : exec .runEnd s =
    .next (if runEndDue s.cfg.runEnd s.ib then { s with ib := endRun s.ib } else s) :=
  whenRunning_blanker (fun s => runEndDue s.cfg.runEnd s.ib) endRun hr

theorem exec_overlongRun {s : State} (hr : running s) : exec .overlongRun s =
    .next (if overlongDue s.ib then { s with ib := endRun s.ib } else s) :=
  whenRunning_blanker (fun s => overlongDue s.ib) endRun hr

theorem exec_predictionMiss {s : State} (hr : running s) : exec .predictionMiss s =
    .next (if missDue s.ib then { s with ib := takeMiss s.ib } else s) :=
  whenRunning_blanker (fun s => missDue s.ib) takeMiss hr

/-! ## The end of a run (R46, R47) -/

theorem runEndDue_iff {h : Nat} {ib : Blanker} :
    runEndDue h ib = true ↔ ib.runState = .blanking ∧ h ≤ ib.quietCount := decide_eq_true_iff

theorem overlongDue_iff {ib : Blanker} :
    overlongDue ib = true ↔ ib.runState = .blanking ∧ 1024 ≤ ib.runLength := decide_eq_true_iff

/-- A run of fewer than 1024 samples leaves the suspension of blanking as it stands (R46). -/
theorem endRun_short {ib : Blanker} (h : ib.runLength < 1024) :
    endRun ib = { ib with runState := .quiet, quietCount := 0, runLength := 0 } := by
  have hlong : decide (1024 ≤ ib.runLength) = false := decide_eq_false (by omega)
  rw [endRun, hlong, Bool.or_false]

/-- A run whose length has reached 1024 suspends blanking (R47). -/
theorem endRun_overlong {ib : Blanker} (h : 1024 ≤ ib.runLength) :
    endRun ib = { ib with runState := .quiet, quietCount := 0, runLength := 0, suspended := true } := by
  rw [endRun, decide_eq_true h, Bool.or_true]

/-! ## A miss (R55) -/

theorem missOverdue_iff {ib : Blanker} : missOverdue ib = true ↔ ib.miss = .owed := decide_eq_true_iff

theorem missDue_iff {ib : Blanker} : missDue ib = true ↔ ib.miss = .owed ∨ missAhead ib = true := by
  rw [missDue, Bool.or_eq_true, missOverdue_iff]

/-- The third miss in a row returns the prediction to UNARMED. -/
theorem predictionAfterMiss_armed (period anchor : Stamp) (misses : Nat) :
    predictionAfterMiss (.armed period anchor misses) =
      if misses < 2 then .armed period (anchor + period) (misses + 1) else .unarmed := by
  by_cases h : misses < 2
  · rw [if_pos h, predictionAfterMiss, if_neg (by omega)]
  · rw [if_neg h, predictionAfterMiss, if_pos (by omega)]

theorem takeMiss_owed {ib : Blanker} (h : ib.miss = .owed) :
    takeMiss ib = { ib with prediction := predictionAfterMiss ib.prediction, miss := .none } := by
  rw [takeMiss, if_pos (missOverdue_iff.mpr h)]

/-- A miss counted ahead of its sample is marked, so that the sample leaves none. -/
theorem takeMiss_ahead {ib : Blanker} (h : ib.miss ≠ .owed) :
    takeMiss ib = { ib with prediction := predictionAfterMiss ib.prediction, miss := .taken } := by
  rw [takeMiss, if_neg (mt missOverdue_iff.mp h)]

/-- A run's end and a miss move different parts of the blanker. -/
theorem endRun_takeMiss (ib : Blanker) : endRun (takeMiss ib) = takeMiss (endRun ib) := rfl

/-- Counting the miss owed before the blanker settles changes nothing: settling counts it itself (assumption log 8). -/
theorem settleBlanker_takeMiss (h : Nat) {ib : Blanker} (ho : ib.miss = .owed) :
    settleBlanker h (takeMiss ib) = settleBlanker h ib := by
  have once {ib' : Blanker} (ho' : ib'.miss = .owed) :
      (if missOverdue (takeMiss ib') then takeMiss (takeMiss ib') else takeMiss ib') =
        if missOverdue ib' then takeMiss ib' else ib' := by
    rw [if_pos (missOverdue_iff.mpr ho'), if_neg (by rw [missOverdue_iff, takeMiss_owed ho']; exact nofun)]
  have hrun : runEndDue h (takeMiss ib) = runEndDue h ib := rfl
  have hoverlong : overlongDue (takeMiss ib) = overlongDue ib := rfl
  simp only [settleBlanker, hrun, hoverlong]
  split
  · rw [endRun_takeMiss]
    exact once ho
  · exact once ho

/-- A miss owed is counted by its own command or by the next sample, to the same effect (assumption log 8). -/
theorem exec_sample_takeMiss (d : Sample) {s : State} (hr : running s) (ho : s.ib.miss = .owed) :
    exec (.sample d) { s with ib := takeMiss s.ib } = exec (.sample d) s := by
  have hr' : running { s with ib := takeMiss s.ib } := hr
  have hsettle : settleSamples { s with ib := takeMiss s.ib } = settleSamples s := by
    simp only [settleSamples, settleBlanker_takeMiss s.cfg.runEnd ho]
  rw [exec_sample d hr', exec_sample d hr, hsettle]

/-! ## Arming and hits (R52 to R54) -/

theorem intervalsClose_iff {tol a b : Nat} :
    intervalsClose tol a b = true ↔ (a : Int) - b ≤ tol ∧ (b : Int) - a ≤ tol := by
  rw [intervalsClose, decide_eq_true_iff]
  omega

/-- The test arms on a history of four stamps alone, when their intervals meet R53. -/
theorem testHistory_armed {h : List Stamp} {p a : Stamp} {m : Nat} : testHistory h = .armed p a m ↔
    ∃ x y z, h = [x, y, z, a] ∧ p = a - z ∧ m = 0 ∧ 256 ≤ (a - z).toNat
      ∧ intervalsClose ((a - z).toNat / 64) (y - x).toNat (a - z).toNat = true
      ∧ intervalsClose ((a - z).toNat / 64) (z - y).toNat (a - z).toNat = true := by
  constructor
  · intro ht
    unfold testHistory at ht
    split at ht
    · rename_i x y z d
      dsimp only at ht
      split at ht
      · rename_i hclose
        obtain ⟨hfirst, hsecond, hlong⟩ := hclose
        cases ht
        exact ⟨x, y, z, rfl, rfl, rfl, hlong, hfirst, hsecond⟩
      · cases ht
    · cases ht
  · rintro ⟨x, y, z, rfl, rfl, rfl, hlong, hfirst, hsecond⟩
    exact if_pos ⟨hfirst, hsecond, hlong⟩

/-- The 129 stamps from 64 before the predicted start on lie inside its window (R52). -/
theorem insideWindow_from {start : Stamp} {k : Nat} (hk : k ≤ 128) :
    insideWindow (start - 64#32 + BitVec.ofNat 32 k) start = true := by
  have hplace : start - 64#32 + BitVec.ofNat 32 k - start + 64#32 = BitVec.ofNat 32 k := by bv_omega
  rw [insideWindow, hplace, decide_eq_true_iff, BitVec.toNat_ofNat]
  omega

theorem predictionAfterEvent_hit {t p a : Stamp} (h : List Stamp) (m : Nat) (hin : insideWindow t (a + p) = true) :
    predictionAfterEvent t h (.armed p a m) = .armed (t - a) t 0 := if_pos hin

theorem predictionAfterEvent_outside {t p a : Stamp} (h : List Stamp) (m : Nat) (hout : insideWindow t (a + p) = false) :
    predictionAfterEvent t h (.armed p a m) = .armed p a m := if_neg (by rw [hout]; exact nofun)

/-! ## O10 -/

/-- Settles O10: each command answers its own effect on the blanker, and the rules' figures are those of the tests it makes. -/
theorem runsEndAndPredictionFollows : Obligations.RunsEndAndPredictionFollows := by
  refine ⟨fun s hr hb => ⟨fun hq hl => ?runEnd, fun hl => ?overlong⟩,
    fun period anchor misses s hr hp => ⟨fun ho => ?owed, fun hn hs => ?ahead, fun hno hs => ?notDue⟩,
    fun t h p a m => ?arms, fun h p a m k hk => predictionAfterEvent_hit h m (insideWindow_from hk),
    fun t h p a m hout => predictionAfterEvent_outside h m (decide_eq_false (Nat.not_le.mpr hout))⟩
  case runEnd => rw [exec_runEnd hr, if_pos (runEndDue_iff.mpr ⟨hb, hq⟩), endRun_short hl]
  case overlong => rw [exec_overlongRun hr, if_pos (overlongDue_iff.mpr ⟨hb, hl⟩), endRun_overlong hl]
  case owed =>
    have hexec : exec .predictionMiss s = .next { s with ib := takeMiss s.ib } := by
      rw [exec_predictionMiss hr, if_pos (missDue_iff.mpr (.inl ho))]
    refine ⟨by rw [hexec, takeMiss_owed ho, hp, predictionAfterMiss_armed], fun d t ht => ?_⟩
    rw [hexec] at ht
    cases ht
    exact (exec_sample_takeMiss d hr ho).symm
  case ahead =>
    have hahead : missAhead s.ib = true := missAhead_iff.mpr ⟨by rw [hn]; exact nofun, _, _, _, hp, hs⟩
    rw [exec_predictionMiss hr, if_pos (missDue_iff.mpr (.inr hahead)), takeMiss_ahead (by rw [hn]; exact nofun), hp,
      predictionAfterMiss_armed]
  case notDue =>
    have hnot : ¬missDue s.ib = true := by
      rw [missDue_iff, missAhead_iff]
      rintro (ho | ⟨htaken, _, _, _, hp', hs'⟩)
      · exact hno ho
      · rw [hp] at hp'
        cases hp'
        exact hs.elim htaken fun hne => hne hs'
    rw [exec_predictionMiss hr, if_neg hnot]
  case arms =>
    refine testHistory_armed.trans (exists_congr fun x => exists_congr fun y => exists_congr fun z => ?_)
    simp only [intervalsClose_iff, and_assoc, Int.natCast_ediv, Nat.cast_ofNat]

end Sys2Proof.Machine

/-! # Proofs: symbols, packets and the merit of a period (R64 to R73) -/

namespace Sys2Proof.Machine

/-! ## MER measurements (R64, R65) -/

theorem deliveredMer_eq (mer : Int) : deliveredMer mer = (max 0 (min 400 mer)).toNat := by
  rw [deliveredMer, clampInt_eq mer (by decide)]

theorem exec_merMeasurement (mer : Int) (b : Bool) {s : State} (hr : running s) :
    exec (.merMeasurement mer b) s = .next (merEvent mer (boundaryBefore b s)) :=
  whenRunning_acquisition (f := fun s => merEvent mer (boundaryBefore b s)) hr
    ((moves_boundaryBefore b s).trans ((moves_merEvent mer _).mono (by decide)))

theorem merEvent_grid {mer : Int} {s : State} (h : s.wu.grid.isSome = true) : merEvent mer s = takeMer mer s := if_pos h

/-- A MER ahead of its boundary waits in a slot emptied of any half-filled symbol (R64). -/
theorem takeMer_ahead {mer : Int} {s : State} (h : boundaryDue s.wu = true) : takeMer mer s =
    { s with pru := { s.pru with slot := { mer := some (deliveredMer mer), verdict := none, ahead := true } } } := by
  simp [takeMer, h, slotMer, completeSlot]

/-- A MER that comes before the verdict on its symbol waits for it (R64). -/
theorem takeMer_waits {mer : Int} {s : State} (h : boundaryDue s.wu = false) (hv : s.pru.slot.verdict = none) :
    takeMer mer s =
      { s with pru := { s.pru with slot := { mer := some (deliveredMer mer), verdict := none, ahead := false } } } := by
  simp [takeMer, h, slotMer, completeSlot, hv]

/-- A MER that finds the verdict on its symbol completes it: tallied in TRACK, dropped otherwise (R64, R65). -/
theorem takeMer_completes {mer : Int} {s : State} {erased : Bool} (h : boundaryDue s.wu = false)
    (hv : s.pru.slot.verdict = some erased) : takeMer mer s = { s with pru := { s.pru with
      slot := .empty
      tallies := if s.gau.acq = .track then tallySymbol (deliveredMer mer) erased s.pru.tallies else s.pru.tallies } } := by
  simp [takeMer, h, slotMer, completeSlot, hv]

/-- Settles O23: a MER belongs to the boundary still to come, or to the symbol the slot holds the verdict of. -/
theorem merCompletesSymbol : Obligations.MerCompletesSymbol := by
  intro mer b s hr hg m
  have hm : deliveredMer mer = m := deliveredMer_eq mer
  have alone (h : b = true → boundaryDue s.wu = false) : exec (.merMeasurement mer b) s = .next (takeMer mer s) := by
    rw [exec_merMeasurement mer b hr, boundaryBefore_settled h, merEvent_grid hg]
  refine ⟨fun hd hb => ?ahead, fun hd hb t ht => ?afterBoundary, fun hd hv => ?waits, fun hd erased hv => ?completes⟩
  case ahead => rw [alone (by simp [hb]), takeMer_ahead hd, hm]
  case afterBoundary =>
    rw [exec_symbolBoundary true hr] at ht
    cases ht
    rw [exec_merMeasurement mer b hr, hb, boundaryBefore_due hd, exec_merMeasurement mer false (running_boundary hr)]
    rfl
  case waits => rw [alone fun _ => hd, takeMer_waits hd hv, hm]
  case completes =>
    refine ⟨_, alone fun _ => hd, ?_⟩
    rw [takeMer_completes hd hv, hm]
    refine ⟨rfl, fun h => if_neg h, fun h => ?_⟩
    simp only [if_pos h]
    cases erased with
    | true => exact ⟨rfl, rfl, fun _ => ⟨rfl, rfl, rfl⟩, nofun⟩
    | false => exact ⟨rfl, rfl, nofun, fun _ => ⟨rfl, rfl, rfl⟩⟩

/-! ## Penalties (R70) -/

theorem packetPenalty_none {t : Tallies} (h : t.allPackets = 0) : packetPenalty t = 400 := if_pos h

theorem packetPenalty_some {t : Tallies} (h : 0 < t.allPackets) :
    packetPenalty t = min 400 (4000 * t.erroredPackets / t.allPackets) := if_neg h.ne'

theorem symbolPenalty_none {t : Tallies} (h : t.allSymbols = 0) : symbolPenalty t = 200 := if_pos h

theorem symbolPenalty_some {t : Tallies} (h : 0 < t.allSymbols) :
    symbolPenalty t = min 200 (1000 * t.erasedSymbols / t.allSymbols) := if_neg h.ne'

theorem meanMer_none {t : Tallies} (h : t.cleanSymbols = 0) : meanMer t = 0 := if_pos h

/-- A capped, rounded-down share is 0 exactly below one whole unit. -/
theorem min_div_lt_one {top a n : Nat} (ht : 0 < top) (hn : 0 < n) : min top (a / n) < 1 ↔ a < n := by
  rw [min_lt_iff, Nat.div_lt_iff_lt_mul hn]
  omega

/-- Settles O24: each penalty by whether anything was taken, and a capped share is 0 below one unit. -/
theorem penaltiesFollowErroredShares : Obligations.PenaltiesFollowErroredShares := by
  intro t
  refine ⟨packetPenalty_none, packetPenalty_some, fun h => ⟨symbolPenalty_none h, meanMer_none⟩, symbolPenalty_some, ?_, ?_⟩
  · rcases Nat.eq_zero_or_pos t.allPackets with h | h
    · rw [packetPenalty_none h]; omega
    · rw [packetPenalty_some h, min_div_lt_one (by decide) h]
  · rcases Nat.eq_zero_or_pos t.allSymbols with h | h
    · rw [symbolPenalty_none h]; omega
    · rw [symbolPenalty_some h, min_div_lt_one (by decide) h]

/-! ## The raw merit (R68, R69, R71) -/

theorem meanMer_some {t : Tallies} (h : 0 < t.cleanSymbols) : meanMer t = t.merSum / t.cleanSymbols := if_neg h.ne'

theorem meritBase_eq (t : Tallies) (r : Nat) :
    meritBase t r = 2 * (max (-100) (min 300 ((meanMer t : Int) - r)) + 100) := by
  rw [meritBase, clampInt_eq _ (by decide), mul_comm]

theorem meritBase_bounds (t : Tallies) (r : Nat) : 0 ≤ meritBase t r ∧ meritBase t r ≤ 800 := by
  rw [meritBase_eq]; omega

/-- A period with an error, or without a packet, is graded without the bonus (R71). -/
theorem rawMerit_unclean {t : Tallies} (r : Nat) (h : 0 < t.erroredPackets ∨ 0 < t.erasedSymbols ∨ t.allPackets = 0) :
    (rawMerit t r : Int) = max 0 (meritBase t r - packetPenalty t - symbolPenalty t) := by
  have hb : cleanBonus t = 0 := if_neg (by omega)
  have hbase := meritBase_bounds t r
  rw [rawMerit, hb]
  omega

/-- A period with packets and neither an errored one nor an erased symbol has no packet penalty, and the bonus (R70, R71). -/
theorem rawMerit_clean {t : Tallies} (r : Nat) (he : t.erroredPackets = 0) (hs : t.erasedSymbols = 0)
    (hp : 0 < t.allPackets) : (rawMerit t r : Int) = max 0 (meritBase t r - symbolPenalty t) + 200 := by
  have hb : cleanBonus t = 200 := if_pos ⟨he, hs, hp⟩
  have hpen : packetPenalty t = 0 := by rw [packetPenalty_some hp, he]; simp
  have hbase := meritBase_bounds t r
  rw [rawMerit, hb, hpen]
  omega

/-- A penalty is full when every symbol taken was erased (R70). -/
theorem symbolPenalty_allErased {t : Tallies} (h : 0 < t.allSymbols) (he : t.erasedSymbols = t.allSymbols) :
    symbolPenalty t = 200 := by
  rw [symbolPenalty_some h, he, Nat.mul_div_cancel _ h]; rfl

theorem requiredMer_bounds (g : Signalling) : 31 ≤ requiredMer g ∧ requiredMer g ≤ 203 := by
  obtain ⟨c, r⟩ := g
  cases c <;> cases r <;> decide

/-- Settles O25: the clauses are those of `rawMerit_clean` and `rawMerit_unclean`, with the bounds of the base. -/
theorem rawMeritStaysInRange : Obligations.RawMeritStaysInRange := by
  refine ⟨by decide, fun t g => ?_⟩
  intro raw base
  have hbase : meritBase t (requiredMer g) = base := meritBase_eq t _
  have hbounds := meritBase_bounds t (requiredMer g)
  have hreq := requiredMer_bounds g
  have unclean := rawMerit_unclean (t := t) (requiredMer g)
  have clean := rawMerit_clean (t := t) (requiredMer g)
  rw [hbase] at hbounds unclean clean
  have noErasure (hs : t.erasedSymbols = 0) (hy : 0 < t.allSymbols) : symbolPenalty t = 0 := by
    rw [symbolPenalty_some hy, hs]; simp
  refine ⟨meanMer_some, meanMer_none, fun he hs hp hy => ?_, unclean, fun he hs hp hy => ?_, rawMerit_le _ _,
    fun he hs hp hy hm => ?_, fun hc hy hs => ?_, fun h => ?_⟩
  · have := clean he hs hp
    rw [noErasure hs hy] at this
    omega
  · have := clean he hs hp
    rw [symbolPenalty_none hy] at this
    exact this
  · have := clean he hs hp
    rw [noErasure hs hy] at this
    omega
  · have := unclean (.inr (.inl (by omega)))
    rw [symbolPenalty_allErased hy hs] at this
    have hmean := meanMer_none hc
    omega
  · have := unclean (by omega)
    omega

end Sys2Proof.Machine

/-! # Proofs: the content of the frames that win arbitration (R58, R79, R94, R98, R102) -/

namespace Sys2Proof.Machine

theorem exec_arbitrationWon {sel : Selection} {s : State} (hr : running s) (h : s.ri.tx = .arbitrating sel) :
    exec .arbitrationWon s = .next (winFrame sel s) := by
  have hwin : winArbitration s = winFrame sel s := by simp [winArbitration, h]
  rw [← hwin]
  exact whenRunning_running hr (by simp [hwin])

theorem winFrame_payload {cls : ServiceClass} {e : QueueEntry} {rest : List QueueEntry} {s : State}
    (h : queueOf cls s.ri = e :: rest) :
    winFrame (.payload cls) s = transmit (payloadFrame s e) { s with ri := withQueue cls rest s.ri } := by
  simp [winFrame, h]

theorem winFrame_take {r : TakeRequest} {s : State} (h : s.ri.takeSlot = some r) : winFrame .take s =
    transmit (.take { sender := s.loader.address, group := r.group, merit := r.merit, anchor := r.anchor })
      { s with ri := { s.ri with takeSlot := none } } := by
  simp [winFrame, h]

theorem winFrame_yield {r : YieldRequest} {s : State} (h : s.ri.yieldSlot = some r) : winFrame .yield s =
    transmit
      (.yield { sender := s.loader.address, group := r.group, lastSignature := s.ri.lastSent, successor := r.successor,
                reason := r.reason })
      { s with ri := { s.ri with yieldSlot := none } } := by
  simp [winFrame, h]

/-- A frame on the line leaves every queue. -/
@[simp] theorem transmit_queue (f : Frame) (c : ServiceClass) (s : State) :
    queueOf c (transmit f s).ri = queueOf c s.ri := by cases c <;> rfl

/-! ## The packet as sent (R58, R79, R98) -/

/-- The second byte of a packet as sent: its top three bits as decoded, the upper bits of the identifier below them, and the
error indicator set with the errored flag. -/
def sentSecond (b : Byte) (high : Nat) (errored : Bool) : Byte :=
  (b &&& 0xE0#8) ||| byte1 high ||| (if errored then 0x80#8 else 0x00#8)

theorem sentPacket_second (p : Packet) (outId : Nat) (errored : Bool) :
    (sentPacket p outId errored)[1] = sentSecond p[1] (outId / 256 % 32) errored := by
  simp [sentPacket, sentSecond]

theorem sentPacket_third (p : Packet) (outId : Nat) (errored : Bool) :
    (sentPacket p outId errored)[2] = byte1 (outId % 256) := by
  simp [sentPacket]

theorem sentPacket_other (p : Packet) (outId : Nat) (errored : Bool) (i : Fin 188) (h1 : i.val ≠ 1) (h2 : i.val ≠ 2) :
    (sentPacket p outId errored)[i] = p[i] := by
  simp [sentPacket, h1.symm, h2.symm]

/-- The low five bits of the second byte are the identifier's. -/
theorem sentSecond_low (b : Byte) (errored : Bool) {high : Nat} (h : high < 32) :
    (sentSecond b high errored).toNat % 32 = high := by
  have hflag : (if errored then 0x80#8 else 0x00#8 : Byte).toNat % 2 ^ 5 = 0 := by cases errored <;> rfl
  have hkept : (b.toNat &&& 0xE0) % 2 ^ 5 = 0 := by rw [Nat.and_mod_two_pow]; simp
  have hhigh : high % 2 ^ 8 % 2 ^ 5 = high := by omega
  change _ % 2 ^ 5 = high
  simp only [sentSecond, byte1, BitVec.toNat_or, BitVec.toNat_and, BitVec.toNat_ofNat, Nat.or_mod_two_pow, hflag, hhigh]
  rw [show 0xE0 % 2 ^ 8 = 0xE0 from rfl, hkept]
  simp

/-- The top three bits of the second byte are those decoded, but for the error indicator's. -/
theorem sentSecond_top (b : Byte) (errored : Bool) {high i : Nat} (h : high < 32) (hi : 5 ≤ i) (hi8 : i < 8) :
    (sentSecond b high errored).getLsbD i = (b.getLsbD i || (errored && decide (i = 7))) := by
  have hhigh : (byte1 high).getLsbD i = false := by
    rw [byte1, BitVec.getLsbD_ofNat, Nat.testBit_lt_two_pow (Nat.lt_of_lt_of_le h (Nat.pow_le_pow_right (n := 2) (by decide) hi))]
    simp
  have hkept : (0xE0#8).getLsbD i = true := by interval_cases i <;> rfl
  have hflag : (if errored then 0x80#8 else 0x00#8 : Byte).getLsbD i = (errored && decide (i = 7)) := by
    interval_cases i <;> cases errored <;> rfl
  simp only [sentSecond, BitVec.getLsbD_or, BitVec.getLsbD_and, hhigh, hkept, hflag, Bool.and_true, Bool.or_false]

/-- Settles O39: each frame that wins is one record built of its request or queue entry, and the packet's second and third
bytes are those of `sentSecond`. -/
theorem winningFramesTakeContent : Obligations.WinningFramesTakeContent := by
  refine ⟨fun cls e rest s hr htx hq hid => ?payload, fun r s hr htx hslot => ?take, fun r s hr htx hslot => ?yield⟩
  case payload =>
    have hhigh : e.outId / 256 % 32 < 32 := Nat.mod_lt _ (by decide)
    have hlow := sentSecond_low e.bytes[1] e.errored hhigh
    have hthird : (byte1 (e.outId % 256)).toNat = e.outId % 256 := by simp [byte1]
    have bit7 := sentSecond_top e.bytes[1] e.errored hhigh (i := 7) (by decide) (by decide)
    rw [Bool.or_comm, decide_eq_true rfl, Bool.and_true] at bit7
    refine ⟨_, sentPacket e.bytes e.outId e.errored, exec_arbitrationWon hr htx, ?_⟩
    rw [winFrame_payload hq]
    refine ⟨rfl, rfl, by simp, fun c hc => by simp [queueOf_withQueue_ne hc], ?_, ?_, ?_, ?_, ?_, ?_,
      sentPacket_other _ _ _⟩
    · rw [sentPacket_second, sentPacket_third, hlow, hthird]
      omega
    · rw [packetIdentifier, sentPacket_second, sentPacket_third, hlow, hthird]
      omega
    · rw [sentPacket_second, bit7]
    · rw [errorIndicator, errorIndicator, sentPacket_second, BitVec.msb_eq_getLsbD_last, BitVec.msb_eq_getLsbD_last]
      exact bit7
    · rw [sentPacket_second, sentSecond_top _ _ hhigh (by decide) (by decide)]
      simp
    · rw [sentPacket_second, sentSecond_top _ _ hhigh (by decide) (by decide)]
      simp
  case take => rw [exec_arbitrationWon hr htx, winFrame_take hslot]; rfl
  case yield => rw [exec_arbitrationWon hr htx, winFrame_yield hslot]; rfl

end Sys2Proof.Machine

/-! # Proofs: frames as bytes (R59, R92, R98, R106, R107) -/

namespace Sys2Proof.Machine

/-! ## The CRC-16 (R59) -/

theorem crc16_append (l : List Byte) (b : Byte) : crc16 (l ++ [b]) = crcByte (crc16 l) b := by simp [crc16]

theorem crcBit_eq (c : BitVec 16) (b : Bool) :
    crcBit c b = (c <<< 1) ^^^ (if c.getLsbD 15 = b then 0x0000#16 else 0x1021#16) := by
  rw [crcBit, BitVec.msb_eq_getLsbD_last]
  cases c.getLsbD 15 <;> cases b <;> simp

theorem crcBit_same {c : BitVec 16} {b : Bool} (h : c.getLsbD 15 = b) : crcBit c b = c <<< 1 := by
  rw [crcBit_eq, if_pos h, BitVec.xor_zero]

/-- A byte that equals the register's upper half shifts that half out and leaves nothing of it. -/
theorem crcByte_same {c : BitVec 16} {b : Byte} (h : ∀ i < 8, b.getLsbD i = c.getLsbD (i + 8)) :
    crcByte c b = c <<< 8 := by
  have bitStep (k : Nat) (hk : k < 8) : crcBit (c <<< k) (b.getLsbD (7 - k)) = c <<< (k + 1) := by
    rw [crcBit_same, BitVec.shiftLeft_add]
    rw [BitVec.getLsbD_shiftLeft, h (7 - k) (by omega), show 7 - k + 8 = 15 - k by omega]
    simp; omega
  simp only [crcByte, List.foldl_cons, List.foldl_nil]
  have h0 := bitStep 0 (by decide)
  rw [BitVec.shiftLeft_zero] at h0
  rw [h0, bitStep 1 (by decide), bitStep 2 (by decide), bitStep 3 (by decide), bitStep 4 (by decide),
    bitStep 5 (by decide), bitStep 6 (by decide), bitStep 7 (by decide)]

/-- The CRC-16 of bytes followed by their own CRC-16 is 0. -/
theorem crc16_residue (l : List Byte) :
    crc16 (l ++ [(crc16 l).extractLsb' 8 8, (crc16 l).extractLsb' 0 8]) = 0#16 := by
  have upper : crcByte (crc16 l) ((crc16 l).extractLsb' 8 8) = crc16 l <<< 8 := crcByte_same fun i hi => by
    simp [hi, Nat.add_comm]
  have lower : crcByte (crc16 l <<< 8) ((crc16 l).extractLsb' 0 8) = crc16 l <<< 8 <<< 8 := crcByte_same fun i hi => by
    simp [hi]; omega
  rw [← List.singleton_append, ← List.append_assoc, crc16_append, crc16_append, upper, lower, ← BitVec.shiftLeft_add]
  exact BitVec.shiftLeft_eq_zero (by decide)

/-! ## Bytes, bits and multi-byte fields -/

theorem byteAt_append_left {l r : List Byte} {i : Nat} (h : i < l.length) : byteAt (l ++ r) i = byteAt l i :=
  List.getD_append _ _ _ _ h

theorem byteAt_append_right (l r : List Byte) (i : Nat) : byteAt (l ++ r) (l.length + i) = byteAt r i := by
  rw [byteAt, List.getD_append_right _ _ _ _ (Nat.le_add_right _ _), Nat.add_sub_cancel_left]; rfl

theorem byte1_toNat {v : Nat} (h : v < 256) : (byte1 v).toNat = v := by simp [byte1]; omega

theorem bytes2_toNat {v : Nat} (h : v < 65536) : (byte1 (v / 256)).toNat * 256 + (byte1 (v % 256)).toNat = v := by
  rw [byte1_toNat (by omega), byte1_toNat (by omega)]; omega

theorem sigBytes_toBitVec (g : Signature) :
    BitVec.ofNat 16 ((byte1 (g.toNat / 256)).toNat * 256 + (byte1 (g.toNat % 256)).toNat) = g := by
  rw [bytes2_toNat g.isLt, BitVec.ofNat_toNat, BitVec.setWidth_eq]

theorem arbitrationByte_toNat {cls : Nat} (a : Address) (h : cls < 4) :
    (arbitrationByte cls a).toNat = cls * 64 + a.val * 4 := byte1_toNat (by omega)

theorem optSigBytes_eq (o : Option Signature) : optSigBytes o = sigBytes (o.getD 0#16) := by cases o <;> rfl

theorem bit_lt (b : Bool) : bit b < 2 := by cases b <;> decide

theorem testBit_of_bit {n k : Nat} {b : Bool} (h : n / 2 ^ k % 2 = bit b) : n.testBit k = b := by
  rw [Nat.testBit_eq_decide_div_mod_eq, h]; cases b <;> rfl

theorem flagAt_eq (b : List Byte) (i k : Nat) : flagAt b i k = (u8At b i).testBit k := rfl

theorem high4At_eq {b : List Byte} {i : Nat} {a : Fin 16} (h : u8At b i / 16 = a.val) : high4At b i = a :=
  Fin.ext (by simp [high4At, h])

theorem arbitrationAddress_eq {b : List Byte} {cls : Nat} {a : Address} (h : u8At b 0 = cls * 64 + a.val * 4) :
    arbitrationAddress b = a :=
  Fin.ext (by simp [arbitrationAddress, h]; omega)

theorem arbitrationClass_eq {b : List Byte} {cls : Nat} {a : Address} (h : u8At b 0 = cls * 64 + a.val * 4) :
    arbitrationClass b = cls := by
  rw [arbitrationClass, h]; omega

/-! ## Codes (R92, R106) -/

theorem classCode_lt (c : ServiceClass) : classCode c < 4 := by cases c <;> decide
theorem roleCode_lt (r : AnnouncedRole) : roleCode r < 4 := by cases r <;> decide
theorem phaseCode_lt (p : Phase) : phaseCode p < 4 := by cases p <;> decide
theorem acqCode_lt (a : AcqState) : acqCode a < 6 := by cases a <;> decide
theorem reasonCode_lt (r : YieldReason) : reasonCode r < 4 := by cases r <;> decide

theorem classCode_row (c : ServiceClass) : [none, some ServiceClass.premium, some .standard, some .spare][classCode c]? =
    some (some c) := by cases c <;> rfl
theorem roleCode_row (r : AnnouncedRole) : [AnnouncedRole.absent, .standby, .taking, .owner][roleCode r]? = some r := by
  cases r <;> rfl
theorem phaseCode_row (p : Phase) : [Phase.none, .catchUp, .drain, .live][phaseCode p]? = some p := by cases p <;> rfl
theorem acqCode_row (a : AcqState) : [AcqState.idle, .gain, .symbol, .frame, .track, .hold][acqCode a]? = some a := by
  cases a <;> rfl
theorem reasonCode_row (r : YieldReason) :
    [YieldReason.challenged, .lockLost, .belowFloor, .duplicate][reasonCode r]? = some r := by cases r <;> rfl

theorem classOfCode_classCode (c : ServiceClass) : classOfCode (classCode c) = some c := by cases c <;> rfl
theorem roleOfCode_roleCode (r : AnnouncedRole) : roleOfCode (roleCode r) = r := by cases r <;> rfl
theorem phaseOfCode_phaseCode (p : Phase) : phaseOfCode (phaseCode p) = p := by cases p <;> rfl
theorem acqOfCode_acqCode (a : AcqState) : acqOfCode (acqCode a) = some a := by cases a <;> rfl
theorem reasonOfCode_reasonCode (r : YieldReason) : reasonOfCode (reasonCode r) = r := by cases r <;> rfl

/-- A byte that holds the code of a cause set bears each cause at its bit. -/
theorem causesCode_bits {n : Nat} {c : CauseSet} (h : n = causesCode c) :
    n.testBit 5 = c.frameLost ∧ n.testBit 4 = c.signallingChanged ∧ n.testBit 3 = c.errorBurst
      ∧ n.testBit 2 = c.erasureBurst ∧ n.testBit 1 = c.windowJump ∧ n.testBit 0 = c.gainClipped ∧ n < 64 := by
  have h0 := bit_lt c.frameLost
  have h1 := bit_lt c.signallingChanged
  have h2 := bit_lt c.errorBurst
  have h3 := bit_lt c.erasureBurst
  have h4 := bit_lt c.windowJump
  have h5 := bit_lt c.gainClipped
  rw [causesCode] at h
  refine ⟨testBit_of_bit ?_, testBit_of_bit ?_, testBit_of_bit ?_, testBit_of_bit ?_, testBit_of_bit ?_, testBit_of_bit ?_, ?_⟩
  all_goals omega

/-! ## The CRC at a frame's end (R98) -/

theorem frameBytes_length (f : Frame) : (frameBytes f).length = (frameBody f).length + 2 := by
  simp [frameBytes, sigBytes, bytes2]

/-- The last two bytes of a frame hold the CRC-16 of all before them. -/
theorem frameBytes_crc {f : Frame} {n : Nat} (h : (frameBody f).length = n) :
    sigAt (frameBytes f) n = crc16 ((frameBytes f).take n) := by
  subst h
  have htake : (frameBytes f).take (frameBody f).length = frameBody f := List.take_left
  rw [htake, sigAt, u16At, u8At, u8At, frameBytes, byteAt_append_right]
  rw [show (frameBody f).length = (frameBody f).length + 0 from rfl, byteAt_append_right]
  exact sigBytes_toBitVec _

theorem frameBytes_crcGood (f : Frame) : crcGood (frameBytes f) = true := by
  rw [crcGood, frameBytes_length, Nat.add_sub_cancel, frameBytes_crc rfl]
  exact decide_eq_true rfl

/-! ## STATUS frames (R106) -/

theorem statusFrame_ranges {f : StatusFrame} (h : f.wf = true) :
    (f.merit ≤ 1000 ∧ f.demand ≤ 4095 ∧ f.floor ≤ 4095)
      ∧ (f.fallsHold < 256 ∧ f.fallsFrame < 256 ∧ f.fallsSymbol < 256 ∧ f.ringDepth < 256 ∧ f.leadDepth < 256)
      ∧ f.dropsPremium < 256 ∧ f.dropsStandard < 256 ∧ f.dropsSpare < 256 ∧ f.receiveErrors < 256 := by
  simp only [StatusFrame.wf, Bool.and_eq_true, decide_eq_true_eq] at h
  omega

/-- The bytes that hold more than one field, and the cause set. -/
theorem status_packedBytes (f : StatusFrame) :
    let b := frameBytes (.status f)
    u8At b 0 = 0 * 64 + f.sender.val * 4 ∧ u8At b 1 = 1
      ∧ u8At b 2 = f.group.val * 16 + roleCode f.role * 4 + phaseCode f.phase
      ∧ u8At b 3 = acqCode f.acq * 32 + bit f.clash * 16 + bit f.addressClash * 8 + bit f.configClamped * 4
      ∧ u8At b 10 = causesCode f.causes := by
  have hrole := roleCode_lt f.role
  have hphase := phaseCode_lt f.phase
  have hacq := acqCode_lt f.acq
  have hclash := bit_lt f.clash
  have haddress := bit_lt f.addressClash
  have hclamped := bit_lt f.configClamped
  have hcauses : causesCode f.causes < 256 := by
    obtain ⟨-, -, -, -, -, -, h⟩ := causesCode_bits (c := f.causes) rfl
    omega
  exact ⟨arbitrationByte_toNat _ (by decide), rfl, byte1_toNat (by omega), byte1_toNat (by omega), byte1_toNat hcauses⟩

/-- The two-byte fields. -/
theorem status_wordFields {f : StatusFrame} (h : f.wf = true) :
    let b := frameBytes (.status f)
    u16At b 4 = f.merit ∧ u16At b 6 = f.demand ∧ u16At b 8 = f.floor := by
  obtain ⟨⟨hmerit, hdemand, hfloor⟩, -⟩ := statusFrame_ranges h
  exact ⟨bytes2_toNat (by omega), bytes2_toNat (by omega), bytes2_toNat (by omega)⟩

/-- The counts, a byte each. -/
theorem status_countBytes {f : StatusFrame} (h : f.wf = true) :
    let b := frameBytes (.status f)
    u8At b 11 = f.fallsHold ∧ u8At b 12 = f.fallsFrame ∧ u8At b 13 = f.fallsSymbol ∧ u8At b 14 = f.ringDepth
      ∧ u8At b 15 = f.leadDepth ∧ u8At b 16 = f.dropsPremium ∧ u8At b 17 = f.dropsStandard ∧ u8At b 18 = f.dropsSpare
      ∧ u8At b 19 = f.receiveErrors := by
  obtain ⟨-, ⟨h11, h12, h13, h14, h15⟩, h16, h17, h18, h19⟩ := statusFrame_ranges h
  exact ⟨byte1_toNat h11, byte1_toNat h12, byte1_toNat h13, byte1_toNat h14, byte1_toNat h15, byte1_toNat h16,
    byte1_toNat h17, byte1_toNat h18, byte1_toNat h19⟩

/-- The parts of bytes 2 and 3, the clash flags bit by bit. -/
theorem status_packedFields (f : StatusFrame) :
    let b := frameBytes (.status f)
    u8At b 2 / 16 = f.group.val ∧ u8At b 2 / 4 % 4 = roleCode f.role ∧ u8At b 2 % 4 = phaseCode f.phase
      ∧ u8At b 3 / 32 = acqCode f.acq ∧ (u8At b 3).testBit 4 = f.clash ∧ (u8At b 3).testBit 3 = f.addressClash
      ∧ (u8At b 3).testBit 2 = f.configClamped ∧ u8At b 3 % 4 = 0 := by
  dsimp only
  obtain ⟨-, -, h2, h3, -⟩ := status_packedBytes f
  have hrole := roleCode_lt f.role
  have hphase := phaseCode_lt f.phase
  have hclash := bit_lt f.clash
  have haddress := bit_lt f.addressClash
  have hclamped := bit_lt f.configClamped
  refine ⟨?_, ?_, ?_, ?_, testBit_of_bit ?_, testBit_of_bit ?_, testBit_of_bit ?_, ?_⟩
  all_goals omega

theorem status_laidOut (f : StatusFrame) (h : f.wf = true) :
    let b := frameBytes (.status f)
    b.length = 22 ∧ u8At b 0 = 4 * f.sender.val ∧ u8At b 1 = 1 ∧ u8At b 2 / 16 = f.group.val
      ∧ [AnnouncedRole.absent, .standby, .taking, .owner][u8At b 2 / 4 % 4]? = some f.role
      ∧ [Phase.none, .catchUp, .drain, .live][u8At b 2 % 4]? = some f.phase
      ∧ [AcqState.idle, .gain, .symbol, .frame, .track, .hold][u8At b 3 / 32]? = some f.acq
      ∧ (u8At b 3).testBit 4 = f.clash ∧ (u8At b 3).testBit 3 = f.addressClash ∧ (u8At b 3).testBit 2 = f.configClamped
      ∧ u8At b 3 % 4 = 0 ∧ u16At b 4 = f.merit ∧ u16At b 6 = f.demand ∧ u16At b 8 = f.floor
      ∧ (u8At b 10).testBit 5 = f.causes.frameLost ∧ (u8At b 10).testBit 4 = f.causes.signallingChanged
      ∧ (u8At b 10).testBit 3 = f.causes.errorBurst ∧ (u8At b 10).testBit 2 = f.causes.erasureBurst
      ∧ (u8At b 10).testBit 1 = f.causes.windowJump ∧ (u8At b 10).testBit 0 = f.causes.gainClipped ∧ u8At b 10 < 64
      ∧ u8At b 11 = f.fallsHold ∧ u8At b 12 = f.fallsFrame ∧ u8At b 13 = f.fallsSymbol ∧ u8At b 14 = f.ringDepth
      ∧ u8At b 15 = f.leadDepth ∧ u8At b 16 = f.dropsPremium ∧ u8At b 17 = f.dropsStandard ∧ u8At b 18 = f.dropsSpare
      ∧ u8At b 19 = f.receiveErrors ∧ sigAt b 20 = crc16 (b.take 20) := by
  dsimp only
  obtain ⟨h0, h1, -, -, h10⟩ := status_packedBytes f
  obtain ⟨hgroup, hrole, hphase, hacq, hclash, haddress, hclamped, hlow⟩ := status_packedFields f
  obtain ⟨hmerit, hdemand, hfloor⟩ := status_wordFields h
  obtain ⟨h11, h12, h13, h14, h15, h16, h17, h18, h19⟩ := status_countBytes h
  obtain ⟨b5, b4, b3, b2, b1, b0, hsmall⟩ := causesCode_bits h10
  exact ⟨rfl, by omega, h1, hgroup, (congrArg _ hrole).trans (roleCode_row _), (congrArg _ hphase).trans (phaseCode_row _),
    (congrArg _ hacq).trans (acqCode_row _), hclash, haddress, hclamped, hlow, hmerit, hdemand, hfloor, b5, b4, b3, b2, b1, b0,
    hsmall, h11, h12, h13, h14, h15, h16, h17, h18, h19, frameBytes_crc rfl⟩

theorem parseStatus_frameBytes {f : StatusFrame} (h : f.wf = true) : parseStatus (frameBytes (.status f)) = some f := by
  obtain ⟨h0, -, -, -, h10⟩ := status_packedBytes f
  obtain ⟨hgroup, hrole, hphase, hacq, hclash, haddress, hclamped, -⟩ := status_packedFields f
  obtain ⟨hmerit, hdemand, hfloor⟩ := status_wordFields h
  obtain ⟨h11, h12, h13, h14, h15, h16, h17, h18, h19⟩ := status_countBytes h
  obtain ⟨b5, b4, b3, b2, b1, b0, -⟩ := causesCode_bits h10
  obtain ⟨hranges, -⟩ := statusFrame_ranges h
  have hcauses : causesAt (frameBytes (.status f)) 10 = f.causes := by
    simp only [causesAt, flagAt_eq, b5, b4, b3, b2, b1, b0]
  simp only [parseStatus, hacq, acqOfCode_acqCode, arbitrationClass_eq h0, arbitrationAddress_eq h0, high4At_eq hgroup, hrole,
    roleOfCode_roleCode, hphase, phaseOfCode_phaseCode, flagAt_eq, hclash, haddress, hclamped, hmerit, hdemand, hfloor, hcauses,
    h11, h12, h13, h14, h15, h16, h17, h18, h19]
  exact if_pos ⟨trivial, hranges⟩

/-! ## TAKE frames (R106) -/

theorem take_bytes {f : TakeFrame} (h : f.wf = true) :
    let b := frameBytes (.take f)
    b.length = 9 ∧ u8At b 0 = 0 * 64 + f.sender.val * 4 ∧ u8At b 1 = 2
      ∧ u8At b 2 = f.group.val * 16 + bit f.anchor.isSome * 8 ∧ u16At b 3 = f.merit ∧ sigAt b 5 = f.anchor.getD 0#16 := by
  have hmerit : f.merit ≤ 1000 := of_decide_eq_true h
  have hanchor := bit_lt f.anchor.isSome
  intro b
  have hb : b = ([arbitrationByte 0 f.sender, 0x02#8, byte1 (f.group.val * 16 + bit f.anchor.isSome * 8)]
      ++ bytes2 f.merit ++ sigBytes (f.anchor.getD 0#16)) ++ sigBytes (crc16 (takeBody f)) := by
    rw [← optSigBytes_eq]; rfl
  rw [hb]
  exact ⟨rfl, arbitrationByte_toNat _ (by decide), rfl, byte1_toNat (by omega), bytes2_toNat (by omega), sigBytes_toBitVec _⟩

theorem take_laidOut (f : TakeFrame) (h : f.wf = true) :
    let b := frameBytes (.take f)
    b.length = 9 ∧ u8At b 0 = 4 * f.sender.val ∧ u8At b 1 = 2
      ∧ u8At b 2 = 16 * f.group.val + (if f.anchor = none then 0 else 8) ∧ u16At b 3 = f.merit
      ∧ sigAt b 5 = f.anchor.getD 0#16 ∧ sigAt b 7 = crc16 (b.take 7) := by
  dsimp only
  obtain ⟨hlength, h0, h1, h2, hmerit, hanchor⟩ := take_bytes h
  refine ⟨hlength, by omega, h1, ?_, hmerit, hanchor, frameBytes_crc ?_⟩
  · rw [h2]
    cases f.anchor <;> simp [bit, mul_comm]
  · rw [frameBytes_length] at hlength; omega

theorem parseTake_frameBytes {f : TakeFrame} (h : f.wf = true) : parseTake (frameBytes (.take f)) = some f := by
  obtain ⟨-, h0, -, h2, hmerit, hanchor⟩ := take_bytes h
  have hbit := bit_lt f.anchor.isSome
  have hgroup : u8At (frameBytes (.take f)) 2 / 16 = f.group.val := by omega
  have hflag : (u8At (frameBytes (.take f)) 2).testBit 3 = f.anchor.isSome := testBit_of_bit (by omega)
  have hread : (if f.anchor.isSome = true then some (f.anchor.getD 0#16) else none) = f.anchor := by cases f.anchor <;> rfl
  simp only [parseTake, arbitrationClass_eq h0, arbitrationAddress_eq h0, high4At_eq hgroup, hmerit, flagAt_eq, hflag, hanchor,
    hread]
  exact if_pos ⟨trivial, of_decide_eq_true h⟩

/-! ## YIELD frames (R106) -/

theorem yield_bytes (f : YieldFrame) :
    let b := frameBytes (.yield f)
    b.length = 8 ∧ u8At b 0 = 0 * 64 + f.sender.val * 4 ∧ u8At b 1 = 3
      ∧ u8At b 2 = f.group.val * 16 + bit f.lastSignature.isSome * 8 + bit f.successor.isSome * 4 + reasonCode f.reason
      ∧ u8At b 3 = (f.successor.getD 0).val * 16 ∧ sigAt b 4 = f.lastSignature.getD 0#16 := by
  have hlast := bit_lt f.lastSignature.isSome
  have hsuccessor := bit_lt f.successor.isSome
  have hreason := reasonCode_lt f.reason
  intro b
  have hb : b = ([arbitrationByte 0 f.sender, 0x03#8,
      byte1 (f.group.val * 16 + bit f.lastSignature.isSome * 8 + bit f.successor.isSome * 4 + reasonCode f.reason),
      byte1 ((f.successor.getD 0).val * 16)] ++ sigBytes (f.lastSignature.getD 0#16)) ++ sigBytes (crc16 (yieldBody f)) := by
    rw [← optSigBytes_eq]; rfl
  rw [hb]
  exact ⟨rfl, arbitrationByte_toNat _ (by decide), rfl, byte1_toNat (by omega), byte1_toNat (by omega), sigBytes_toBitVec _⟩

theorem yield_laidOut (f : YieldFrame) :
    let b := frameBytes (.yield f)
    b.length = 8 ∧ u8At b 0 = 4 * f.sender.val ∧ u8At b 1 = 3
      ∧ u8At b 2 / 4 = 4 * f.group.val + (if f.lastSignature = none then 0 else 2) + (if f.successor = none then 0 else 1)
      ∧ [YieldReason.challenged, .lockLost, .belowFloor, .duplicate][u8At b 2 % 4]? = some f.reason
      ∧ (∀ a, f.successor = some a → u8At b 3 = 16 * a.val) ∧ (f.successor = none → u8At b 3 = 0)
      ∧ sigAt b 4 = f.lastSignature.getD 0#16 ∧ sigAt b 6 = crc16 (b.take 6) := by
  dsimp only
  obtain ⟨hlength, h0, h1, h2, h3, hlast⟩ := yield_bytes f
  have hreason := reasonCode_lt f.reason
  have hcode : u8At (frameBytes (.yield f)) 2 % 4 = reasonCode f.reason := by omega
  refine ⟨hlength, by omega, h1, ?_, (congrArg _ hcode).trans (reasonCode_row _), fun a ha => ?_, fun ha => ?_, hlast,
    frameBytes_crc ?_⟩
  · have hbits : bit f.lastSignature.isSome = (if f.lastSignature = none then 0 else 1)
        ∧ bit f.successor.isSome = if f.successor = none then 0 else 1 := by
      cases f.lastSignature <;> cases f.successor <;> simp [bit]
    rw [h2, hbits.1, hbits.2]
    split <;> split <;> omega
  · rw [h3, ha, mul_comm]; rfl
  · rw [h3, ha]; rfl
  · rw [frameBytes_length] at hlength; omega

theorem parseYield_frameBytes (f : YieldFrame) : parseYield (frameBytes (.yield f)) = some f := by
  obtain ⟨-, h0, -, h2, h3, hlast⟩ := yield_bytes f
  have hlastBit := bit_lt f.lastSignature.isSome
  have hsuccessorBit := bit_lt f.successor.isSome
  have hreason := reasonCode_lt f.reason
  have hgroup : u8At (frameBytes (.yield f)) 2 / 16 = f.group.val := by omega
  have hsuccessor : u8At (frameBytes (.yield f)) 3 / 16 = (f.successor.getD 0).val := by omega
  have hflag3 : (u8At (frameBytes (.yield f)) 2).testBit 3 = f.lastSignature.isSome := testBit_of_bit (by omega)
  have hflag2 : (u8At (frameBytes (.yield f)) 2).testBit 2 = f.successor.isSome := testBit_of_bit (by omega)
  have hcode : u8At (frameBytes (.yield f)) 2 % 4 = reasonCode f.reason := by omega
  have hreadLast : (if f.lastSignature.isSome = true then some (f.lastSignature.getD 0#16) else none) = f.lastSignature := by
    cases f.lastSignature <;> rfl
  have hreadSuccessor : (if f.successor.isSome = true then some (f.successor.getD 0) else none) = f.successor := by
    cases f.successor <;> rfl
  simp only [parseYield, arbitrationClass_eq h0, arbitrationAddress_eq h0, high4At_eq hgroup, high4At_eq hsuccessor, flagAt_eq,
    hflag3, hflag2, hlast, hcode, reasonOfCode_reasonCode, hreadLast, hreadSuccessor, if_true]

/-! ## PAYLOAD frames (R106) -/

theorem payload_bytes {h : PayloadHeader} (p : Packet) (hw : h.wf = true) :
    let b := frameBytes (.payload h p)
    u8At b 0 = classCode h.cls * 64 + h.sender.val * 4 ∧ u8At b 1 = 4
      ∧ u8At b 2 = h.group.val * 16 + bit h.errored * 8 + classCode h.cls * 2 ∧ u16At b 3 = h.outId
      ∧ sigAt b 5 = h.signature := by
  have hid : h.outId ≤ 8191 := of_decide_eq_true hw
  have herrored := bit_lt h.errored
  have hcls := classCode_lt h.cls
  exact ⟨arbitrationByte_toNat _ hcls, rfl, byte1_toNat (by omega), bytes2_toNat (by omega), sigBytes_toBitVec _⟩

theorem payload_bodyLength (h : PayloadHeader) (p : Packet) : (frameBody (.payload h p)).length = 195 := by
  simp [frameBody, payloadBody, bytes2, sigBytes]

/-- The packet's bytes follow the seven of the header. -/
theorem payload_packetByte (h : PayloadHeader) (p : Packet) (i : Fin 188) :
    byteAt (frameBytes (.payload h p)) (7 + i.val) = p[i] := by
  have hpacket : byteAt p.toList i.val = p[i] := by simp [byteAt]
  rw [← hpacket, frameBytes, byteAt_append_left (by rw [payload_bodyLength]; omega)]
  exact byteAt_append_right _ p.toList i.val

theorem payload_laidOut (h : PayloadHeader) (p : Packet) (hw : h.wf = true) :
    let b := frameBytes (.payload h p)
    let code := u8At b 0 / 64
    b.length = 197 ∧ [none, some ServiceClass.premium, some .standard, some .spare][code]? = some (some h.cls)
      ∧ u8At b 0 % 64 = 4 * h.sender.val ∧ u8At b 1 = 4
      ∧ u8At b 2 = 16 * h.group.val + (if h.errored then 8 else 0) + 2 * code ∧ u16At b 3 = h.outId
      ∧ sigAt b 5 = h.signature ∧ (∀ i : Fin 188, byteAt b (7 + i.val) = p[i]) ∧ sigAt b 195 = crc16 (b.take 195) := by
  dsimp only
  obtain ⟨h0, h1, h2, hid, hsignature⟩ := payload_bytes p hw
  have hcode : u8At (frameBytes (.payload h p)) 0 / 64 = classCode h.cls := arbitrationClass_eq h0
  have hlength : (frameBytes (.payload h p)).length = 197 := by rw [frameBytes_length, payload_bodyLength]
  refine ⟨hlength, by rw [hcode]; exact classCode_row _, by omega, h1, ?_, hid, hsignature, payload_packetByte h p,
    frameBytes_crc (payload_bodyLength h p)⟩
  rw [h2, hcode, bit]
  split <;> omega

theorem parsePayload_frameBytes {h : PayloadHeader} (p : Packet) (hw : h.wf = true) :
    parsePayload (frameBytes (.payload h p)) = some h := by
  obtain ⟨h0, -, h2, hid, hsignature⟩ := payload_bytes p hw
  have herrored := bit_lt h.errored
  have hcls := classCode_lt h.cls
  have hgroup : u8At (frameBytes (.payload h p)) 2 / 16 = h.group.val := by omega
  have hflag : (u8At (frameBytes (.payload h p)) 2).testBit 3 = h.errored := testBit_of_bit (by omega)
  have hcopy : u8At (frameBytes (.payload h p)) 2 / 2 % 4 = classCode h.cls := by omega
  have hidRange : h.outId % 8192 = h.outId := Nat.mod_eq_of_lt (Nat.lt_succ_of_le (of_decide_eq_true hw))
  simp only [parsePayload, arbitrationClass_eq h0, classOfCode_classCode, hcopy, arbitrationAddress_eq h0, high4At_eq hgroup,
    flagAt_eq, hflag, hid, hidRange, hsignature, if_true]

theorem payloadPacket_frameBytes (h : PayloadHeader) (p : Packet) : payloadPacket (frameBytes (.payload h p)) = p := by
  apply Vector.ext
  intro i hi
  rw [payloadPacket, Vector.getElem_ofFn]
  exact payload_packetByte h p ⟨i, hi⟩

/-! ## Frames read back (R106, R107) -/

/-- Bytes of the length of their type, their CRC-16 good and bits 1–0 of byte 0 clear, are read by the parser of that type. -/
theorem checkFrame_frameBytes {f : Frame} (h : frameSound f) : checkFrame (frameBytes f) = some f := by
  have hcrc := frameBytes_crcGood f
  cases f with
  | status f =>
    obtain ⟨h0, h1, -⟩ := status_packedBytes f
    have hlow : u8At (frameBytes (.status f)) 0 % 4 = 0 := by omega
    have hlength : (frameBytes (.status f)).length = 22 := rfl
    simp [checkFrame, hlength, h1, hcrc, hlow, parseStatus_frameBytes h]
  | take f =>
    obtain ⟨hlength, h0, h1, -⟩ := take_bytes h
    have hlow : u8At (frameBytes (.take f)) 0 % 4 = 0 := by omega
    simp [checkFrame, hlength, h1, hcrc, hlow, parseTake_frameBytes h]
  | yield f =>
    obtain ⟨hlength, h0, h1, -⟩ := yield_bytes f
    have hlow : u8At (frameBytes (.yield f)) 0 % 4 = 0 := by omega
    simp [checkFrame, hlength, h1, hcrc, hlow, parseYield_frameBytes f]
  | payload h' p =>
    obtain ⟨h0, h1, -⟩ := payload_bytes p h
    have hlow : u8At (frameBytes (.payload h' p)) 0 % 4 = 0 := by omega
    have hlength : (frameBytes (.payload h' p)).length = 197 := by rw [frameBytes_length, payload_bodyLength]
    simp [checkFrame, hlength, h1, hcrc, hlow, parsePayload_frameBytes p h, payloadPacket_frameBytes]

/-- Settles O50: the layout of each kind of frame, the CRC-16, and the parser that reads the fields from where they stand. -/
theorem frameBytesLaidOutAndReadBack : Obligations.FrameBytesLaidOutAndReadBack := by
  refine ⟨status_laidOut, take_laidOut, yield_laidOut, payload_laidOut, ⟨rfl, fun l b => ?_, crc16_residue⟩,
    fun f => checkFrame_frameBytes⟩
  simp only [crc16_append, crcByte, crcBit_eq]

end Sys2Proof.Machine

/-! # Proofs: packets in TRACK and what they leave on their way (R57 to R63, R66, R77 to R82, R148, R170) -/

namespace Sys2Proof.Machine

/-! ## Records and the blocks they never reach

A record's receiver neither reads nor changes the packet recovery unit and the service table, so that a record taken before or
after these two are written leaves the same state. -/

/-- The packet recovery unit and the service table set aside to `p` and `v`. -/
def aside (p : Pru) (v : List ServiceEntry) (s : State) : State := { s with pru := p, services := v }

section
variable (p : Pru) (v : List ServiceEntry)

theorem refreshLamp_aside (s : State) : refreshLamp (aside p v s) = aside p v (refreshLamp s) := by
  have h : basePattern (aside p v s) = basePattern s := rfl
  have hiu : (aside p v s).iu = s.iu := rfl
  unfold refreshLamp
  rw [h, hiu]
  split <;> rfl

theorem goLive_aside (s : State) : goLive (aside p v s) = aside p v (goLive s) :=
  refreshLamp_aside p v { s with hbu := { s.hbu with phase := .live } }

theorem countDrop_aside (c : ServiceClass) (s : State) : countDrop c (aside p v s) = aside p v (countDrop c s) := by
  cases c <;> rfl

theorem countRemoved_aside (l : List RingEntry) (s : State) :
    countRemoved l (aside p v s) = aside p v (countRemoved l s) := by
  induction l generalizing s with
  | nil => rfl
  | cons e l ih =>
    simp only [countRemoved, List.foldl_cons, countDrop_aside] at ih ⊢
    exact ih _

theorem expireRing_aside (b : Nat) (s : State) : expireRing b (aside p v s) = aside p v (expireRing b s) := by
  have h : draining (aside p v s) = draining s := rfl
  simp only [expireRing, h]
  split
  · exact countRemoved_aside p v _ { s with hbu := { s.hbu with ring := ringAfterExpiry b s.hbu.ring } }
  · rfl

theorem placeInRing_aside (r : RingEntry) (s : State) : placeInRing r (aside p v s) = aside p v (placeInRing r s) := by
  have h : draining (aside p v s) = draining s := rfl
  have hring : (aside p v s).hbu = s.hbu := rfl
  simp only [placeInRing, h, hring]
  split
  · split
    · exact countRemoved_aside p v _ { s with hbu := { s.hbu with ring := s.hbu.ring.drop 1 ++ [r] } }
    · rfl
  · rfl

theorem appendRing_aside (r : RingEntry) (s : State) : appendRing r (aside p v s) = aside p v (appendRing r s) := by
  rw [appendRing, expireRing_aside, placeInRing_aside, appendRing]

theorem admissionAnswer_aside (c : ServiceClass) (s : State) : admissionAnswer c (aside p v s) = admissionAnswer c s := rfl

theorem admitEntry_aside (e : QueueEntry) (s : State) : admitEntry e (aside p v s) = aside p v (admitEntry e s) := rfl

theorem countOffered_aside (s : State) : countOffered (aside p v s) = aside p v (countOffered s) := rfl

theorem offerRecord_aside (e : QueueEntry) (s : State) : offerRecord e (aside p v s) = aside p v (offerRecord e s) := by
  have h : (aside p v s).ou = s.ou := rfl
  simp only [offerRecord, h, admissionAnswer_aside, countDrop_aside, countOffered_aside, admitEntry_aside]
  split
  · split <;> rfl
  · rfl

theorem offerEntries_aside (n : Nat) (s : State) : offerEntries n (aside p v s) = aside p v (offerEntries n s) := by
  induction n generalizing s with
  | zero => rfl
  | succ n ih =>
    have h : (aside p v s).hbu = s.hbu := rfl
    simp only [offerEntries, h, admissionAnswer_aside]
    split
    · rfl
    · rename_i e rest _
      split
      · exact ih (admitEntry (queueEntry e) { s with hbu := { s.hbu with ring := rest } })
      · have hdrop := countDrop_aside p v e.cls { s with hbu := { s.hbu with ring := rest } }
        exact (congrArg (fun u => offerEntries n (countOffered u)) hdrop).trans (ih (countOffered (countDrop e.cls _)))
      · rfl

theorem drainOffer_aside (s : State) : drainOffer (aside p v s) = aside p v (drainOffer s) := by
  simp only [drainOffer, offerEntries_aside]
  split
  · rename_i h; exact (goLive_aside p v _).trans (congrArg _ (if_pos h).symm)
  · rename_i h; exact congrArg _ (if_neg h).symm

theorem standbyRecord_aside (r : RingEntry) (s : State) :
    standbyRecord r (aside p v s) = aside p v (standbyRecord r s) := by
  have h : (aside p v s).hbu = s.hbu := rfl
  simp only [standbyRecord, h]
  split
  · exact appendRing_aside p v r s
  · split
    · rfl
    · split
      · rfl
      · exact appendRing_aside p v r { s with hbu := { s.hbu with lead := [] } }

theorem catchUpGap_aside (r : RingEntry) (s : State) : catchUpGap r (aside p v s) = aside p v (catchUpGap r s) :=
  (congrArg (offerRecord _) (goLive_aside p v { s with hbu := { s.hbu with lead := [] } })).trans
    (offerRecord_aside p v _ (goLive _))

theorem catchUpRecord_aside (r : RingEntry) (s : State) :
    catchUpRecord r (aside p v s) = aside p v (catchUpRecord r s) := by
  have h : (aside p v s).hbu = s.hbu := rfl
  have hcfg : (aside p v s).cfg = s.cfg := rfl
  simp only [catchUpRecord, h, hcfg]
  split
  · exact catchUpGap_aside p v r { s with hbu := { s.hbu with catchUpCount := s.hbu.catchUpCount + 1 } }
  · split
    · rfl
    · split
      · rename_i rest _
        split
        · exact goLive_aside p v { s with hbu := { s.hbu with lead := rest, catchUpCount := s.hbu.catchUpCount + 1 } }
        · rfl
      · exact catchUpGap_aside p v r { s with hbu := { s.hbu with catchUpCount := s.hbu.catchUpCount + 1 } }

theorem drainRecord_aside (r : RingEntry) (s : State) : drainRecord r (aside p v s) = aside p v (drainRecord r s) := by
  simp only [drainRecord, expireRing_aside, goLive_aside, offerRecord_aside, placeInRing_aside, drainOffer_aside]
  have h : (aside p v (expireRing r.stamp s)).hbu = (expireRing r.stamp s).hbu := rfl
  rw [h]
  split <;> rfl

/-- A record is taken alike whatever the packet recovery unit and the service table hold. -/
theorem takeRecord_aside (r : RingEntry) (s : State) : takeRecord r (aside p v s) = aside p v (takeRecord r s) := by
  have hou : (aside p v s).ou = s.ou := rfl
  have hhbu : (aside p v s).hbu = s.hbu := rfl
  simp only [takeRecord, hou, hhbu]
  split
  case h_3 =>
    split
    · exact offerRecord_aside p v _ s
    · exact catchUpRecord_aside p v r s
    · exact drainRecord_aside p v r s
    · rfl
  case h_1 => exact standbyRecord_aside p v r s
  case h_2 => exact standbyRecord_aside p v r s
  all_goals rfl

end

/-! ## The lookup (R77 to R81) -/

/-- The first entry that covers an identifier, the table split around it. -/
def coversFirst (id : Nat) (table before : List ServiceEntry) (e : ServiceEntry) (after : List ServiceEntry) : Prop :=
  table = before ++ e :: after ∧ (∀ x ∈ before, covers id x = false) ∧ covers id e = true

theorem coversFirst.find {id : Nat} {table before after : List ServiceEntry} {e : ServiceEntry}
    (h : coversFirst id table before e after) : table.find? (covers id) = some e := by
  obtain ⟨rfl, hbefore, he⟩ := h
  rw [List.find?_append, List.find?_eq_none.mpr (by simpa using hbefore), List.find?_cons_of_pos he]
  rfl

/-- The this-period mark is set in that entry alone (R82). -/
theorem coversFirst.markUse {id : Nat} {table before after : List ServiceEntry} {e : ServiceEntry}
    (h : coversFirst id table before e after) :
    markUse id table = before ++ { e with thisPeriod := true } :: after := by
  obtain ⟨rfl, hbefore, he⟩ := h
  induction before with
  | nil => simp [Machine.markUse, he]
  | cons x before ih =>
    rw [List.forall_mem_cons] at hbefore
    obtain ⟨hx, hrest⟩ := hbefore
    simp [Machine.markUse, hx, ih hrest]

/-- A stuffing packet and an identifier no entry covers end at the lookup (R77, R78). -/
theorem lookup_ends {l : Bool} {r : PacketRecord} {s : State}
    (h : r.inputId = 8191 ∨ s.services.find? (covers r.inputId) = none) : lookup l r s = s := by
  rcases h with h | h <;> simp [lookup, h]

/-- A SUSPENDED entry drops the record (R81). -/
theorem lookup_suspended {l : Bool} {r : PacketRecord} {s : State} {e : ServiceEntry} {hold : Nat} (hid : r.inputId ≠ 8191)
    (h : s.services.find? (covers r.inputId) = some e) (he : e.suspension = .suspended hold) :
    lookup l r s = countDrop e.cls s := by
  simp [lookup, hid, h, he]

/-- An ACTIVE entry is marked in use and its record handed on (R80, R82). -/
theorem lookup_active {l : Bool} {r : PacketRecord} {s : State} {before after : List ServiceEntry} {e : ServiceEntry}
    (hid : r.inputId ≠ 8191) (h : coversFirst r.inputId s.services before e after) (he : e.suspension = .active) :
    lookup l r s = handOn l (forwardable r e) { s with services := before ++ { e with thisPeriod := true } :: after } := by
  simp [lookup, hid, h.find, he, h.markUse]

/-- A record handed on and taken at once is taken as the hold-back unit takes it by role and phase (R80, R148). -/
theorem handOn_now (r : RingEntry) (s : State) : handOn false r s = takeRecord r s := by
  cases hrole : s.ou.role with
  | owner => cases hphase : s.hbu.phase <;> simp [handOn, routeOf, takeRecord, deliver, hrole, hphase]
  | absent | standby | taking | yielding => simp [handOn, routeOf, takeRecord, deliver, hrole]

/-- What the lookup of a record taken at once leaves alone. -/
theorem lookup_now_frame (r : PacketRecord) (s : State) :
    (lookup false r s).resetLow = s.resetLow ∧ (lookup false r s).waiting = s.waiting ∧ (lookup false r s).gau = s.gau
      ∧ (lookup false r s).wu = s.wu ∧ (lookup false r s).pru = s.pru ∧ (lookup false r s).ou = s.ou := by
  unfold lookup
  split
  · simp
  · split
    · simp
    · split
      · simp
      · simp [handOn_now]

/-! ## Packets taken in TRACK (R60 to R62, R66) -/

/-- A packet is counted, an errored one as such (R66). -/
def tallied (errored : Bool) (s : State) : State := { s with pru := { s.pru with tallies := tallyPacket errored s.pru.tallies } }

theorem takePacket_track {p : Packet} {u l : Bool} {s : State} (h : s.gau.acq = .track) : takePacket p u l s =
    countError (erroredFlag p u) (lookup l (packetRecord p u s.wu) (tallied (erroredFlag p u) s)) := by
  simp [takePacket, h, packetInTrack, packetRecord, tallied]

/-- Short of the 64th errored packet in a row the error run moves alone (R61). -/
theorem countError_short {e : Bool} {s : State} (h : e = true → s.pru.errorRun < 63) : countError e s =
    { s with pru := { s.pru with errorRun := if e then s.pru.errorRun + 1 else 0 } } := by
  cases e with
  | true => exact countError_raise (h rfl)
  | false => rfl

/-- The packet recovery unit after a packet in TRACK that completes no error run. -/
def packetCounted (errored : Bool) (pru : Pru) : Pru :=
  { pru with errorRun := if errored then pru.errorRun + 1 else 0, tallies := tallyPacket errored pru.tallies }

/-- The station after such a packet, its record taken at once. -/
theorem takePacket_short {p : Packet} {u : Bool} {s : State} (ha : s.gau.acq = .track)
    (h : erroredFlag p u = true → s.pru.errorRun < 63) : takePacket p u false s =
      { lookup false (packetRecord p u s.wu) (tallied (erroredFlag p u) s) with
        pru := packetCounted (erroredFlag p u) s.pru } := by
  obtain ⟨-, -, -, -, hpru, -⟩ := lookup_now_frame (packetRecord p u s.wu) (tallied (erroredFlag p u) s)
  rw [takePacket_track ha, countError_short (by rw [hpru]; exact h), hpru]
  rfl

/-- The station after the 64th errored packet in a row, its record taken at once: the error run is 0 and the report of
ERROR_BURST on its way (R62). -/
def burstRaised (p : Packet) (u : Bool) (s : State) : State :=
  { lookup false (packetRecord p u s.wu) (tallied (erroredFlag p u) s) with
    pru := { s.pru with errorRun := 0, tallies := tallyPacket true s.pru.tallies }
    waiting := { s.waiting with burst := true } }

theorem takePacket_burst {p : Packet} {u : Bool} {s : State} (ha : s.gau.acq = .track) (he : erroredFlag p u = true)
    (h : s.pru.errorRun = 63) : takePacket p u false s = burstRaised p u s := by
  obtain ⟨-, hwaiting, -, -, hpru, -⟩ := lookup_now_frame (packetRecord p u s.wu) (tallied true s)
  rw [takePacket_track ha, burstRaised, he, countError_burst (by rw [hpru]; exact h), hpru, hwaiting]
  rfl

theorem burstRaised_frame (p : Packet) (u : Bool) (s : State) :
    (burstRaised p u s).resetLow = s.resetLow ∧ (burstRaised p u s).gau = s.gau ∧ (burstRaised p u s).ou = s.ou := by
  obtain ⟨hreset, -, hgau, -, -, hou⟩ := lookup_now_frame (packetRecord p u s.wu) (tallied (erroredFlag p u) s)
  exact ⟨hreset, hgau, hou⟩

/-- A report of ERROR_BURST taken in TRACK is recorded and enters HOLD; a STANDBY station stays as it is (R15, R62, R121). -/
theorem settleBurst_track {s : State} (ha : s.gau.acq = .track) (hb : s.waiting.burst = true) :
    let t := settleBurst s
    t.gau.acq = .hold ∧ t.gau.holdCount = 0 ∧ t.gau.causes = { s.gau.causes with errorBurst := true }
      ∧ t.gau.carried.errorBurst = false ∧ t.pru = leaveTrack s.pru
      ∧ (s.ou.role = .standby → t.hbu = s.hbu) := by
  have hsettle : settleBurst s = enterHold (recordCause .errorBurst { s with waiting := { s.waiting with burst := false } }) := by
    rw [settleBurst, if_pos hb, reportCause_track _ (by exact ha)]
  intro t
  have ht : t = enterHold (recordCause .errorBurst { s with waiting := { s.waiting with burst := false } }) := hsettle
  have hgau := enterHold_gau (recordCause .errorBurst { s with waiting := { s.waiting with burst := false } })
  have hpru := enterHold_pru (recordCause .errorBurst { s with waiting := { s.waiting with burst := false } })
  rw [← ht] at hgau hpru
  rw [hgau, hpru, if_pos (by exact ha)]
  refine ⟨rfl, rfl, rfl, rfl, rfl, fun hrole => ?_⟩
  rw [ht]
  simp [enterHold, changeAcq, ha, roleAtAcqChange, hrole, belowHold, recordCause]

/-! ## O27 -/

/-- An attempt is as settled after a drop is counted as before. -/
theorem attemptSettled_countDrop (c : ServiceClass) {s : State} (h : attemptSettled s) : attemptSettled (countDrop c s) := by
  cases c <;> exact h

theorem countDrop_ri (c : ServiceClass) (s : State) : countDrop c s = { s with ri := (countDrop c s).ri } := by
  cases c <;> rfl

/-- A decoded packet of a running station that brings no report about, whatever it makes available to the line. -/
theorem exec_packet_attempts {p : Packet} {r : PacketReport} {s t : State} (hr : running s)
    (ht : takePacket p r.uncorrectable r.recordLater s = t) (hb : t.waiting.burst = false) :
    exec (.packetDecoded p r) s = .next (attempt t) := by
  cases hl : r.reportLater with
  | true => exact exec_packet_later hr hl ht
  | false => rw [exec_packet_now hr hl ht, settleBurst_nothing hb]

/-- The record of a packet that an ACTIVE entry covers is taken, whatever the packet recovery unit then counts. -/
theorem lookup_record {p : Packet} {u : Bool} {s : State} {before after : List ServiceEntry} {e : ServiceEntry} (pru : Pru)
    (hid : packetIdentifier p ≠ 8191) (h : coversFirst (packetIdentifier p) s.services before e after)
    (he : e.suspension = .active) :
    { lookup false (packetRecord p u s.wu) (tallied (erroredFlag p u) s) with pru := pru } =
      aside pru (before ++ { e with thisPeriod := true } :: after) (takeRecord (forwardable (packetRecord p u s.wu) e) s) := by
  have hlookup : lookup false (packetRecord p u s.wu) (tallied (erroredFlag p u) s) =
      takeRecord (forwardable (packetRecord p u s.wu) e)
        (aside (tallied (erroredFlag p u) s).pru (before ++ { e with thisPeriod := true } :: after) s) := by
    rw [lookup_active hid h he, handOn_now]
    rfl
  rw [hlookup, takeRecord_aside]
  rfl

/-- Settles O27: the packet is tallied, the lookup ends or takes its record, and the error run is counted after it. -/
theorem lookupEndsOrRoutesPackets : Obligations.LookupEndsOrRoutesPackets := by
  intro p r s hr ha hnow hs errored tallies counted record
  have hburst : s.waiting.burst = false := by rw [hr.2]; rfl
  refine ⟨fun hrun => ?short, fun he h63 hl => ?burst⟩
  case short =>
    have hpacket : takePacket p r.uncorrectable r.recordLater s =
        { lookup false (packetRecord p r.uncorrectable s.wu) (tallied errored s) with pru := counted } := by
      rw [hnow]; exact takePacket_short ha hrun
    refine ⟨fun h => ?ends, fun e hold hid hfind he => ?suspended, fun before e after hid hsplit hbefore hcov he => ?active⟩
    case ends =>
      rw [lookup_ends h] at hpacket
      exact exec_packet hr hpacket hburst (attemptSettled_of_same hs rfl rfl rfl)
    case suspended =>
      rw [lookup_suspended hid hfind he, countDrop_ri] at hpacket
      have hri : (countDrop e.cls (tallied errored s)).ri = (countDrop e.cls s).ri := by cases e.cls <;> rfl
      rw [hri] at hpacket
      refine ⟨_, exec_packet hr hpacket hburst ?_, rfl, ?_, ?_, ?_, fun c => ?_⟩
      · exact attemptSettled_of_same (attemptSettled_countDrop e.cls hs) rfl (by simp [tallied]) (by simp [tallied])
      · exact countDrops_queue e.cls .premium 1 s
      · exact countDrops_queue e.cls .standard 1 s
      · exact countDrops_queue e.cls .spare 1 s
      · simp only [countDrop, countDrops_drops]
        split <;> rfl
    case active =>
      have hrecord := lookup_record (u := r.uncorrectable) counted hid ⟨hsplit, hbefore, hcov⟩ he
      have htaken := hpacket.trans (hrecord.trans (takeRecord_aside _ _ _ s).symm)
      exact exec_packet_attempts hr htaken (by simp [hburst])
  case burst =>
    have hpacket : takePacket p r.uncorrectable r.recordLater s = burstRaised p r.uncorrectable s := by
      rw [hnow]; exact takePacket_burst ha he h63
    obtain ⟨-, hgau, hou⟩ := burstRaised_frame p r.uncorrectable s
    obtain ⟨hacq, hcount, hcauses, hcarried, hpru, hhbu⟩ :=
      settleBurst_track (s := burstRaised p r.uncorrectable s) (by rw [hgau]; exact ha) rfl
    refine ⟨_, exec_packet_now hr hl hpacket, ?_⟩
    simp only [attempt_frame, settleBurst_frame]
    rw [hpru, hcauses]
    refine ⟨hacq, hcount, rfl, hcarried, rfl, rfl, rfl, ?_, fun hrole before e after hid hsplit hbefore hcov hact => ?_⟩
    · simp [burstRaised, leaveTrack, tallyPacket, satAdd, tallies, show errored = true from he]
    · have hrecord := lookup_record (u := r.uncorrectable) s.pru hid ⟨hsplit, hbefore, hcov⟩ hact
      rw [hhbu (by rw [hou]; exact hrole)]
      exact ⟨(congrArg State.hbu hrecord :), (congrArg State.services hrecord :)⟩

end Sys2Proof.Machine

/-! # Proofs: report expiries (R67, R72, R73, R82, R115, R118, R162, R163) -/

namespace Sys2Proof.Machine

/-! ## The decision of the role (R115, R123 to R125) -/

/-- What a periodic decision can do. -/
inductive Decides (s : State) : State → Prop
  /-- The role stays; the challenge count may move (R124). -/
  | stays (count : Nat) : Decides s { s with ou := { s.ou with challengeCount := count } }
  /-- The station challenges the rival OWNER (R124). -/
  | challenges (hr : s.ou.role = .standby) : Decides s (challenge s)
  /-- The station becomes OWNER of an empty group (R123). -/
  | owns (hr : s.ou.role = .standby) (anchor : Option Signature) : Decides s (enterOwner anchor s)
  /-- An OWNER below the floor yields (R125). -/
  | yields (hr : s.ou.role = .owner) (a : Address) : Decides s (yieldWith (some a) .belowFloor s)

theorem Decides.same (s : State) : Decides s s := .stays s.ou.challengeCount

theorem challengeTest_decides {s : State} (hr : s.ou.role = .standby) : Decides s (challengeTest s) := by
  unfold challengeTest
  split
  · split
    · exact .stays 0
    · split
      · split
        · exact .challenges hr
        · exact .stays _
      · exact .stays 0
  · exact .stays 0

theorem standbyDecision_decides {s : State} (hr : s.ou.role = .standby) : Decides s (standbyDecision s) := by
  unfold standbyDecision
  split
  · exact .owns hr _
  · exact challengeTest_decides hr

theorem ownerDecision_decides {s : State} (hr : s.ou.role = .owner) : Decides s (ownerDecision s) := by
  unfold ownerDecision
  split
  · split
    · exact .same s
    · exact .yields hr _
  · exact .same s

theorem periodicDecision_decides (s : State) : Decides s (periodicDecision s) := by
  unfold periodicDecision
  split
  · exact standbyDecision_decides ‹_›
  · exact ownerDecision_decides ‹_›
  all_goals exact .same s

/-- The peer view, the marks and the report timer stand. -/
def sameView (a b : Ownership) : Prop :=
  b.peers = a.peers ∧ b.emptyMark = a.emptyMark ∧ b.previousMark = a.previousMark ∧ b.reportTimer = a.reportTimer

/-- No decision touches the peer view, the marks and the report timer. -/
theorem Decides.view {s t : State} (h : Decides s t) : sameView s.ou t.ou := by
  cases h with
  | stays => exact ⟨rfl, rfl, rfl, rfl⟩
  | challenges =>
    obtain ⟨hou, -⟩ := changeRole_spec .taking (requestTake s.pru.smoothed (leadAnchor s.hbu) s)
    rw [challenge, startHandover, hou]
    exact ⟨rfl, rfl, rfl, rfl⟩
  | owns _ anchor =>
    obtain ⟨hou, -⟩ := enterOwner_spec anchor s
    rw [hou]
    exact ⟨rfl, rfl, rfl, rfl⟩
  | yields _ a =>
    obtain ⟨hou, -⟩ := changeRole_spec .yielding (requestYield (some a) .belowFloor s)
    rw [yieldWith, hou]
    exact ⟨rfl, rfl, rfl, rfl⟩

/-! ## Demand and share (R162, R163, R166) -/

/-- An owner's share of the budget beside the LIVE owners of a peer view (R163, R164). -/
def shareBeside (view : List Peer) (cfg : Configuration) (demand : Nat) : Nat :=
  shareOf cfg.budget ((demand, cfg.floor) ::
    (view.filter fun p => decide (p.liveness = .live ∧ p.role = .owner)).map fun p => (p.demand, p.floor)) (demand, cfg.floor)

theorem shareExpiry_sau (s : State) : (shareExpiry s).sau = { s.sau with
    demand := demandFor s.sau.offered s.cfg.reportPeriod, offered := 0
    share := if s.ou.role = .owner
      then shareBeside s.ou.peers s.cfg (demandFor s.sau.offered s.cfg.reportPeriod) else 0 } := rfl

/-- An offer of ring entries counts and charges them, and leaves demand and share. -/
theorem offerEntries_share (n : Nat) (s : State) :
    (offerEntries n s).sau.demand = s.sau.demand ∧ (offerEntries n s).sau.share = s.sau.share := by
  induction n generalizing s with
  | zero => exact ⟨rfl, rfl⟩
  | succ n ih =>
    unfold offerEntries
    split
    · exact ⟨rfl, rfl⟩
    · split
      · exact ih _
      · rename_i e rest _ _ _
        obtain ⟨hdemand, hshare⟩ := ih (countOffered (countDrop e.cls { s with hbu := { s.hbu with ring := rest } }))
        rw [hdemand, hshare]
        simp [countOffered]
      · exact ⟨rfl, rfl⟩

theorem drainOffer_share (s : State) :
    (drainOffer s).sau.demand = s.sau.demand ∧ (drainOffer s).sau.share = s.sau.share := by
  have h := offerEntries_share 2 s
  unfold drainOffer
  dsimp only
  split
  · simpa using h
  · exact h

/-- The entry into OWNER computes the share on the demand and the view it finds (R166). -/
theorem enterOwner_share (anchor : Option Signature) (s : State) : (enterOwner anchor s).sau.demand = s.sau.demand
    ∧ (enterOwner anchor s).sau.share = shareBeside s.ou.peers s.cfg s.sau.demand := by
  unfold enterOwner
  dsimp only
  split
  · simp only [startFlash_frame, refreshLamp_frame, requestStatus_frame, drainOffer_share]
    exact ⟨rfl, rfl⟩
  · simp only [startFlash_frame, refreshLamp_frame, requestStatus_frame]
    exact ⟨rfl, rfl⟩

/-- What a decision leaves of demand and offered count: only an entry into OWNER may offer packets. -/
theorem Decides.demand {s t : State} (h : Decides s t) :
    t.sau.demand = s.sau.demand ∧ (s.ou.role ≠ .standby → t.sau.offered = s.sau.offered) := by
  cases h with
  | stays => exact ⟨rfl, fun _ => rfl⟩
  | challenges hr => exact ⟨by simp [challenge, changeRole_spec], fun hn => absurd hr hn⟩
  | owns hr anchor => exact ⟨(enterOwner_share anchor s).1, fun hn => absurd hr hn⟩
  | yields => simp [yieldWith, changeRole_spec]

/-- The share a decision leaves: that of the view it finds at an entry into OWNER, 0 at a change into another role (R166). -/
theorem Decides.share {s t : State} (h : Decides s t) :
    (t.ou.role = s.ou.role ∧ t.sau.share = s.sau.share) ∨ (t.ou.role ≠ .owner ∧ t.sau.share = 0)
      ∨ (s.ou.role = .standby ∧ t.ou.role = .owner ∧ t.sau.share = shareBeside s.ou.peers s.cfg s.sau.demand) := by
  cases h with
  | stays => exact .inl ⟨rfl, rfl⟩
  | challenges => exact .inr (.inl (by simp [challenge, changeRole_spec]))
  | owns hr anchor => exact .inr (.inr ⟨hr, by simp [enterOwner_spec], (enterOwner_share anchor s).2⟩)
  | yields => exact .inr (.inl (by simp [yieldWith, changeRole_spec]))

/-! ## The expiry as a whole -/

theorem exec_reportExpiry (b : Bool) {n : Nat} {s : State} (hr : running s) (hn : s.ou.reportTimer = some n) :
    exec (.reportExpiry b) s = .next (attempt (takeExpiry b s)) := by
  have hwaiting : (takeExpiry b s).waiting = s.waiting := (moves_takeExpiry b s).changesOnly.same (b := .waiting) (by decide)
  have heffect : (if s.ou.reportTimer.isSome then attempt (takeExpiry b s) else s) = attempt (takeExpiry b s) :=
    if_pos (by rw [hn]; rfl)
  rw [← heffect]
  exact whenRunning_running (f := fun s => if s.ou.reportTimer.isSome then attempt (takeExpiry b s) else s) hr
    (by rw [heffect]; simpa using hwaiting)

theorem attempt_statusSlot (s : State) : (attempt s).ri.statusSlot = s.ri.statusSlot := by
  rcases attempt_cases s with h | ⟨sel, -, -, -, h⟩ <;> rw [h]

/-- The blocks beside those of role and capacity close their period (R67, R82). -/
theorem takeExpiry_period (b : Bool) (s : State) :
    (takeExpiry b s).pru = closePeriod s.gau.acq s.pru ∧ (takeExpiry b s).services = s.services.map moveMarks
      ∧ (takeExpiry b s).gau = s.gau ∧ (takeExpiry b s).wu = s.wu ∧ (takeExpiry b s).ib = s.ib ∧ (takeExpiry b s).cfg = s.cfg
      ∧ (takeExpiry b s).loader = s.loader ∧ (takeExpiry b s).ri.statusSlot = true := by
  cases b <;> simp [takeExpiry, ownershipExpiry, shareExpiry, closePeriods]

theorem closePeriod_other {acq : AcqState} (pru : Pru) (h : acq ≠ .track) :
    closePeriod acq pru = { pru with smoothed := 0, tallies := .zero } := if_neg h

theorem closePeriod_track {pru : Pru} {g : Signalling} (h : pru.signalling = some g) : closePeriod .track pru = { pru with
    smoothed := if pru.fresh then rawMerit pru.tallies (requiredMer g)
      else (3 * pru.smoothed + rawMerit pru.tallies (requiredMer g)) / 4
    fresh := false, tallies := .zero } := by
  simp [closePeriod, h]

theorem closePeriod_tallies (acq : AcqState) (pru : Pru) : (closePeriod acq pru).tallies = .zero := by
  unfold closePeriod; split <;> rfl

/-- The group is empty when no rival is OWNER or TAKING (R115, R118). -/
theorem groupEmpty_iff {s : State} : groupEmpty s = true ↔ ∀ p ∈ s.ou.peers, p.liveness = .live → p.group = s.cfg.group →
    p.role ≠ .owner ∧ p.role ≠ .taking := by
  simp [groupEmpty, rivals, isRival]

/-- What the ownership unit decides on: the view aged and this expiry's mark recorded (R115, R118). -/
def decidesOn (s : State) : State := recordMark (ageView s)

/-- The peer view a report expiry leaves (R118). -/
def agedView (s : State) : List Peer := s.ou.peers.filterMap (agePeer s.cfg.silenceLimit)

/-- The ownership unit's view and marks after its part of an expiry (R114, R115, R118). -/
theorem ownershipExpiry_view (s : State) :
    (ownershipExpiry s).ou.peers = agedView s ∧ (ownershipExpiry s).ou.previousMark = s.ou.emptyMark
      ∧ (ownershipExpiry s).ou.reportTimer = s.ou.reportTimer
      ∧ ((ownershipExpiry s).ou.emptyMark = true ↔ ∀ p ∈ agedView s, p.liveness = .live → p.group = s.cfg.group →
          p.role ≠ .owner ∧ p.role ≠ .taking) := by
  obtain ⟨hpeers, hempty, hprevious, htimer⟩ := (periodicDecision_decides (decidesOn s)).view
  exact ⟨hpeers, hprevious, htimer, (Bool.eq_iff_iff.mp hempty).trans groupEmpty_iff⟩

/-- The share and admission unit reads and changes nothing of the ownership unit's view and marks. -/
theorem takeExpiry_view (b : Bool) (s : State) :
    (takeExpiry b s).ou.peers = agedView s ∧ (takeExpiry b s).ou.previousMark = s.ou.emptyMark
      ∧ (takeExpiry b s).ou.reportTimer = s.ou.reportTimer
      ∧ ((takeExpiry b s).ou.emptyMark = true ↔ ∀ p ∈ agedView s, p.liveness = .live → p.group = s.cfg.group →
          p.role ≠ .owner ∧ p.role ≠ .taking) := by
  cases b with
  | true => exact ownershipExpiry_view (shareExpiry (closePeriods s))
  | false => exact ownershipExpiry_view (closePeriods s)

theorem takeExpiry_shareFirst (s : State) : takeExpiry true s = ownershipExpiry (shareExpiry (closePeriods s)) := rfl

theorem takeExpiry_shareLast (s : State) : takeExpiry false s = shareExpiry (ownershipExpiry (closePeriods s)) := rfl

theorem ownershipExpiry_decides (s : State) : ∃ t, Decides (decidesOn s) t ∧ (ownershipExpiry s).ou = t.ou
    ∧ (ownershipExpiry s).sau = t.sau :=
  ⟨_, periodicDecision_decides _, rfl, rfl⟩

/-- The demand is formed and the offered count cleared, but for what an entry into OWNER offers (R161, R162). -/
theorem takeExpiry_demand (b : Bool) (s : State) :
    (b = true ∨ s.ou.role ≠ .standby →
      (takeExpiry b s).sau.demand = demandFor s.sau.offered s.cfg.reportPeriod)
    ∧ (b = false ∨ s.ou.role ≠ .standby → (takeExpiry b s).sau.offered = 0) := by
  cases b with
  | true =>
    obtain ⟨t, hdecides, -, hsau⟩ := ownershipExpiry_decides (shareExpiry (closePeriods s))
    obtain ⟨hdemand, hoffered⟩ := hdecides.demand
    rw [takeExpiry_shareFirst, hsau, hdemand]
    exact ⟨fun _ => rfl, fun h => hoffered (h.resolve_left nofun)⟩
  | false =>
    obtain ⟨t, hdecides, -, hsau⟩ := ownershipExpiry_decides (closePeriods s)
    obtain ⟨-, hoffered⟩ := hdecides.demand
    have hcfg : (ownershipExpiry (closePeriods s)).cfg = s.cfg := by simp [ownershipExpiry, closePeriods]
    rw [takeExpiry_shareLast, shareExpiry_sau, hsau, hcfg]
    exact ⟨fun h => by rw [hoffered (h.resolve_left nofun)]; rfl, fun _ => rfl⟩

/-- An owner's share comes from the peer view that stands when the share unit takes the expiry (R163, R166). -/
theorem takeExpiry_share (b : Bool) (s : State) :
    ((takeExpiry b s).ou.role ≠ .owner → (takeExpiry b s).sau.share = 0)
    ∧ ((takeExpiry b s).ou.role = .owner → (takeExpiry b s).sau.share =
        shareBeside (if b = true ∧ s.ou.role = .owner then s.ou.peers else agedView s) s.cfg (takeExpiry b s).sau.demand) := by
  cases b with
  | true =>
    obtain ⟨t, hdecides, hou, hsau⟩ := ownershipExpiry_decides (shareExpiry (closePeriods s))
    obtain ⟨hdemand, -⟩ := hdecides.demand
    rw [takeExpiry_shareFirst, hou, hsau, hdemand]
    rcases hdecides.share with ⟨hrole, hshare⟩ | ⟨hrole, hshare⟩ | ⟨hstandby, hrole, hshare⟩
    · have hs : t.ou.role = s.ou.role := hrole
      rw [hs, hshare]
      exact ⟨fun h => if_neg h, fun h => by rw [if_pos ⟨rfl, h⟩]; exact if_pos h⟩
    · exact ⟨fun _ => hshare, fun h => absurd h hrole⟩
    · have hs : s.ou.role = .standby := hstandby
      have hview : (decidesOn (shareExpiry (closePeriods s))).ou.peers = agedView s := rfl
      have hcfg : (decidesOn (shareExpiry (closePeriods s))).cfg = s.cfg := by simp [decidesOn, shareExpiry, closePeriods]
      rw [hshare, hview, hcfg, hs, if_neg (by simp)]
      exact ⟨fun h => absurd hrole h, fun _ => rfl⟩
  | false =>
    have hcfg : (ownershipExpiry (closePeriods s)).cfg = s.cfg := by simp [ownershipExpiry, closePeriods]
    have hpeers : (ownershipExpiry (closePeriods s)).ou.peers = agedView s := (ownershipExpiry_view (closePeriods s)).1
    have hou : (shareExpiry (ownershipExpiry (closePeriods s))).ou = (ownershipExpiry (closePeriods s)).ou := rfl
    rw [takeExpiry_shareLast, hou, shareExpiry_sau, hpeers, hcfg]
    refine ⟨fun h => ?_, fun h => ?_⟩
    · rw [if_neg h]
    · rw [if_pos h, if_neg (show ¬(false = true ∧ _) from fun hc => nomatch hc.1)]

/-- Settles O32: what each block leaves at an expiry, in either order of the share and the ownership unit. -/
theorem reportExpiryClosesPeriod : Obligations.ReportExpiryClosesPeriod := by
  intro b n s hr hn aged
  obtain ⟨hpru, hservices, hgau, hwu, hib, hcfg, hloader, hstatus⟩ := takeExpiry_period b s
  obtain ⟨hpeers, hprevious, htimer, hempty⟩ := takeExpiry_view b s
  obtain ⟨hdemand, hoffered⟩ := takeExpiry_demand b s
  obtain ⟨hshare, hownShare⟩ := takeExpiry_share b s
  refine ⟨_, exec_reportExpiry b hr hn, ?_⟩
  simp only [attempt_frame, attempt_statusSlot]
  rw [hpru]
  refine ⟨hstatus, htimer.trans hn, hservices, closePeriod_tallies _ _, hgau, hwu, hib, hcfg, hloader, hdemand, hoffered,
    fun ha => by rw [closePeriod_other _ ha], fun g ha hg => ?graded, hpeers, hprevious, hempty, hshare, hownShare⟩
  rw [ha, closePeriod_track hg]
  exact ⟨rfl, fun hf => if_pos hf, fun hf => if_neg (by rw [hf]; exact nofun)⟩

end Sys2Proof.Machine

/-! # Proofs: records and reports on their way (R62, R63, R80, R148, R170, R175) -/

namespace Sys2Proof.Machine

/-! ## What is taken after a command (assumption log 28) -/

theorem whenRunning_nothingWaits {f : State → State} {s t : State} (hlow : s.resetLow = false)
    (h : whenRunning f s = .next t) : t.waiting = nothingWaits := by
  simp only [whenRunning, hlow] at h
  cases h
  simp

/-- While RESET is high nothing waits after any command but RESET, RESET_END and PACKET_DECODED. -/
theorem exec_nothingWaits {c : Instr} {s t : State} (hlow : s.resetLow = false) (hreset : c ≠ .reset)
    (hend : ∀ straps, c ≠ .resetEnd straps) (hpacket : ∀ p r, c ≠ .packetDecoded p r) (h : exec c s = .next t) :
    t.waiting = nothingWaits := by
  have high : ¬s.resetLow = true := by rw [hlow]; exact nofun
  cases c with
  | reset => exact absurd rfl hreset
  | resetEnd straps => exact absurd rfl (hend straps)
  | packetDecoded p r => exact absurd rfl (hpacket p r)
  | silenceAssert =>
    change execSilenceAssert s = _ at h
    rw [execSilenceAssert, if_neg high] at h
    exact whenRunning_nothingWaits hlow h
  | silenceRelease =>
    change execSilenceRelease s = _ at h
    rw [execSilenceRelease, if_neg high] at h
    exact whenRunning_nothingWaits hlow h
  | _ =>
    simp only [exec, execResetEnableCommand, execResetCommand, execRecoveryWaitEnd, execHeaderRead, execRecordRead,
      execRetryTimerExpiry, execSample, execRunEnd, execOverlongRun, execPredictionMiss, execGainMeasurement,
      execOutputPeriodEnd, execTrialEnd, execSymbolBoundary, execFramePass, execHoldLimit, execMerMeasurement,
      execProfileUpdate, execSyncFound, execFrameCheck, execReportExpiry, execAdmissionTick, execHandoverTimerExpiry,
      execSuspensionHoldEnd, execAddressClashHoldEnd, execBusIdle, execStartBit, execArbitrationWon,
      execArbitrationLost, execReadbackMismatch, execFrameSent, execStatusReceived, execTakeReceived,
      execYieldReceived, execPayloadReceived, execReceiveError, execHandoverFlashEnd, execOwnAddressFrame] at h
    exact whenRunning_nothingWaits hlow h

theorem whenRunning_high {f : State → State} {s : State} (hlow : s.resetLow = false) :
    whenRunning f s = .next (takeWaiting (f s)) := by
  simp [whenRunning, hlow]

/-- A record that waits alone is taken by its receiver. -/
theorem takeWaiting_record {route : Route} {r : RingEntry} {s : State}
    (h : s.waiting = { record := some (route, r), burst := false }) :
    takeWaiting s = attempt (deliver route r { s with waiting := nothingWaits }) := by
  have hsettle : settleRecord s = deliver route r { s with waiting := nothingWaits } := by
    simp [settleRecord, h, nothingWaits]
  rw [takeWaiting, if_neg (by simp [h, nothingWaits]), hsettle, settleBurst_nothing]
  simp [nothingWaits]

theorem settleRecord_none {s : State} (h : s.waiting.record = none) : settleRecord s = s := by
  simp [settleRecord, h]

/-! ## Lines and queues -/

/-- An attempt leaves the queues and the drop counts, and no packet on the line. -/
theorem attempt_line (c : ServiceClass) (s : State) : queueOf c (attempt s).ri = queueOf c s.ri
    ∧ dropsOf c (attempt s).ri = dropsOf c s.ri ∧ lineDrop c (attempt s).ri.tx = lineDrop c s.ri.tx := by
  rcases attempt_cases s with h | ⟨sel, -, htx, -, h⟩ <;> rw [h]
  · exact ⟨rfl, rfl, rfl⟩
  · rw [htx]
    cases c <;> exact ⟨rfl, rfl, rfl⟩

theorem dropsOf_withQueue (c d : ServiceClass) (q : List QueueEntry) (ri : Riser) :
    dropsOf d (withQueue c q ri) = dropsOf d ri := by cases c <;> cases d <;> rfl

/-- A class's drop count after one more drop in class `c`. -/
theorem countDrop_count (c d : ServiceClass) (s : State) : (dropsOf d (countDrop c s).ri).count =
    if d = c then min 255 ((dropsOf d s.ri).count + 1) else (dropsOf d s.ri).count := by
  rw [countDrop, countDrops_drops]
  split <;> rfl

/-! ## Records offered for admission (R170 to R173) -/

theorem passesCredit_iff {c : ServiceClass} {s : State} : passesCredit c s = true ↔ passesTest c s := by
  cases c <;> simp [passesCredit, passesTest]

/-- An owner admits a record that passes its test and finds room, and otherwise drops it; either way it is counted (R161). -/
theorem offerRecord_owner (e : QueueEntry) {s : State} (h : s.ou.role = .owner) :
    (passesTest e.cls s ∧ (queueOf e.cls s.ri).length < queueCapacity e.cls → offerRecord e s = admitEntry e s)
    ∧ (¬(passesTest e.cls s ∧ (queueOf e.cls s.ri).length < queueCapacity e.cls) →
        offerRecord e s = countOffered (countDrop e.cls s)) := by
  rw [← passesCredit_iff]
  refine ⟨fun ⟨hp, hq⟩ => by simp [offerRecord, h, admissionAnswer, hp, hq], fun hn => ?_⟩
  by_cases hp : passesCredit e.cls s = true
  · have hfull : ¬(queueOf e.cls s.ri).length < queueCapacity e.cls := fun hq => hn ⟨hp, hq⟩
    simp [offerRecord, h, admissionAnswer, hp, hfull]
  · simp [offerRecord, h, admissionAnswer, hp]

theorem offerRecord_offered (e : QueueEntry) {s : State} (h : s.ou.role = .owner) :
    (offerRecord e s).sau.offered = min 65535 (s.sau.offered + 1) := by
  obtain ⟨hadmit, hdrop⟩ := offerRecord_owner e h
  by_cases hp : passesTest e.cls s ∧ (queueOf e.cls s.ri).length < queueCapacity e.cls
  · rw [hadmit hp]; rfl
  · rw [hdrop hp]; simp [countOffered, satAdd]

/-- An admission is charged, and a drop is not (R171, R172). -/
theorem offerRecord_credit (e : QueueEntry) {s : State} (h : s.ou.role = .owner) :
    (passesTest e.cls s ∧ (queueOf e.cls s.ri).length < queueCapacity e.cls →
      (offerRecord e s).sau.credit = chargedCredit s)
    ∧ (¬(passesTest e.cls s ∧ (queueOf e.cls s.ri).length < queueCapacity e.cls) →
      (offerRecord e s).sau.credit = s.sau.credit) := by
  obtain ⟨hadmit, hdrop⟩ := offerRecord_owner e h
  exact ⟨fun hp => by rw [hadmit hp, admitEntry_credit], fun hn => by rw [hdrop hn, countOffered_credit, countDrop_sau]⟩

/-! ## The cut-off of an owner (R101, R103, R112, R137) -/

/-- The drops a cut-off leaves in a class: those counted, the packet on the line and those queued (R101, R103). -/
def cutOffDrops (c : ServiceClass) (ri : Riser) : Nat :=
  min 255 ((dropsOf c ri).count + lineDrop c ri.tx + (queueOf c ri).length)

/-- A packet offered by an owner is one packet more that a cut-off drops in its class, queued or counted already. -/
theorem cutOffDrops_offerRecord (e : QueueEntry) (c : ServiceClass) {s : State} (h : s.ou.role = .owner) :
    cutOffDrops c (offerRecord e s).ri = min 255 ((dropsOf c s.ri).count + lineDrop c s.ri.tx + (queueOf c s.ri).length
      + if c = e.cls then 1 else 0) := by
  obtain ⟨hadmit, hdrop⟩ := offerRecord_owner e h
  by_cases hp : passesTest e.cls s ∧ (queueOf e.cls s.ri).length < queueCapacity e.cls
  · rw [hadmit hp]
    have hri : (admitEntry e s).ri = withQueue e.cls (queueOf e.cls s.ri ++ [e]) s.ri := rfl
    have htx : (withQueue e.cls (queueOf e.cls s.ri ++ [e]) s.ri).tx = s.ri.tx := by cases e.cls <;> rfl
    rw [cutOffDrops, hri, dropsOf_withQueue, htx]
    by_cases hc : c = e.cls
    · rw [if_pos hc, ← hc, queueOf_withQueue_self, List.length_append, List.length_singleton, ← Nat.add_assoc]
    · rw [if_neg hc, queueOf_withQueue_ne hc, Nat.add_zero]
  · rw [hdrop hp]
    have hri : (countOffered (countDrop e.cls s)).ri = (countDrop e.cls s).ri := rfl
    rw [cutOffDrops, hri, countDrop_count, countDrop, countDrops_queue, (countDrops_riser e.cls 1 s).1]
    split <;> omega

theorem stopDriving_line (c : ServiceClass) (s : State) :
    queueOf c (stopDriving s).ri = queueOf c s.ri ∧ dropsOf c (stopDriving s).ri = dropsOf c s.ri := by
  cases c <;> exact ⟨rfl, rfl⟩

/-- Forgetting what a STATUS carried leaves the queues and the counts. -/
theorem forgetReports_line (c : ServiceClass) (s : State) : queueOf c (forgetReports s).ri = queueOf c s.ri
    ∧ (dropsOf c (forgetReports s).ri).count = (dropsOf c s.ri).count := by
  cases c <;> exact ⟨rfl, rfl⟩

/-- Ending a transmission leaves the line and the queues, and counts the packet that was on the line (R101). -/
theorem endTransmission_line (c : ServiceClass) (s : State) :
    (endTransmission s).ri.tx = .silent ∧ queueOf c (endTransmission s).ri = queueOf c s.ri
      ∧ (dropsOf c (endTransmission s).ri).count = if lineDrop c s.ri.tx = 0 then (dropsOf c s.ri).count
          else min 255 ((dropsOf c s.ri).count + 1) := by
  have kept (t : State) : queueOf c (stopDriving t).ri = queueOf c t.ri ∧ dropsOf c (stopDriving t).ri = dropsOf c t.ri :=
    stopDriving_line c t
  unfold endTransmission
  split
  case h_1 htx => rw [htx]; exact ⟨rfl, rfl, rfl⟩
  case h_3 f htx =>
    rw [htx, (kept _).1, (kept _).2]
    exact ⟨rfl, (forgetReports_line c _).1, (forgetReports_line c (unmarkCauses s)).2⟩
  case h_6 h p htx =>
    rw [htx, (kept _).1, (kept _).2, countDrop_count, countDrop, countDrops_queue]
    refine ⟨rfl, rfl, ?_⟩
    by_cases hc : c = h.cls
    · simp [lineDrop, hc]
    · simp [lineDrop, hc, Ne.symm hc]
  all_goals
    rename_i htx
    rw [htx, (kept _).1, (kept _).2]
    exact ⟨rfl, rfl, rfl⟩

theorem emptyQueue_tx (c : ServiceClass) (s : State) : (emptyQueue c s).ri.tx = s.ri.tx := by
  cases c <;> simp [emptyQueue, withQueue]

theorem emptyQueue_drops (c d : ServiceClass) (s : State) : dropsOf d (emptyQueue c s).ri =
    if d = c then raiseCountBy (queueOf c s.ri).length (dropsOf d s.ri) else dropsOf d s.ri := by
  rw [emptyQueue, countDrops_drops, dropsOf_withQueue]

/-- The queues emptied, each entry is counted in its class (R96, R103). -/
theorem emptyQueues_line (c : ServiceClass) (s : State) : (emptyQueues s).ri.tx = s.ri.tx
    ∧ (dropsOf c (emptyQueues s).ri).count = min 255 ((dropsOf c s.ri).count + (queueOf c s.ri).length) := by
  refine ⟨by simp only [emptyQueues, emptyQueue_tx], ?_⟩
  cases c <;> simp [emptyQueues, emptyQueue_drops, emptyQueue_queue, raiseCountBy, satAdd]

/-- What SILENCE leaves of the line before the role falls: nothing driven, and every packet in hand dropped (R112). -/
theorem silenced_line (c : ServiceClass) (s : State) :
    (emptyQueues (emptySlots (endTransmission s))).ri.tx = .silent
      ∧ (dropsOf c (emptyQueues (emptySlots (endTransmission s))).ri).count = cutOffDrops c s.ri := by
  obtain ⟨htx, hqueue, hdrops⟩ := endTransmission_line c s
  obtain ⟨hsilent, hcount⟩ := emptyQueues_line c (emptySlots (endTransmission s))
  have hslots : queueOf c (emptySlots (endTransmission s)).ri = queueOf c (endTransmission s).ri
      ∧ dropsOf c (emptySlots (endTransmission s)).ri = dropsOf c (endTransmission s).ri := by
    cases c <;> exact ⟨rfl, rfl⟩
  have hline : lineDrop c s.ri.tx ≤ 1 := by
    unfold lineDrop
    split <;> (try split) <;> omega
  refine ⟨hsilent.trans htx, ?_⟩
  rw [hcount, hslots.1, hslots.2, hqueue, hdrops, cutOffDrops]
  split <;> omega

/-- A departure from OWNER with nothing on the line, but for the entry into YIELDING, leaves the riser interface but a STATUS
request (R96, R99). -/
theorem changeRole_ri_silent {r : Role} {s : State} (htx : s.ri.tx = .silent) (hr : r ≠ .yielding) :
    (changeRole r s).ri = { s.ri with statusSlot := true } := by
  have hleaves : (riserLeavesOwner r (setRole r s)).ri = s.ri := by
    simp [riserLeavesOwner, hr, abandonPayload, setRole, htx]
  unfold changeRole
  dsimp only
  split
  · simp [requestStatus, hleaves]
  · simp [requestStatus, setRole]

theorem endTransmission_acq (s : State) : (endTransmission s).gau.acq = s.gau.acq := by
  unfold endTransmission
  split <;> simp

/-- SILENCE takes an owner in TRACK to STANDBY, its share and credit to 0, and drops every packet in hand (R112, R137, R166). -/
theorem silenceStation_owner {s : State} (hr : s.ou.role = .owner) (ha : s.gau.acq = .track) :
    (silenceStation s).ou.role = .standby ∧ (silenceStation s).sau = { s.sau with share := 0, credit := 0 }
      ∧ ∀ c, (dropsOf c (silenceStation s).ri).count = cutOffDrops c s.ri := by
  have hfall : silenceStation s = changeRole .standby (stopHandover (emptyQueues (emptySlots (endTransmission s)))) := by
    simp [silenceStation, fallRole, hr, restingRole, belowHold, endTransmission_acq, ha]
  obtain ⟨hou, hsau, -, -⟩ := changeRole_spec .standby (stopHandover (emptyQueues (emptySlots (endTransmission s))))
  rw [hfall]
  refine ⟨by rw [hou], by rw [hsau]; simp, fun c => ?_⟩
  obtain ⟨htx, hcount⟩ := silenced_line c s
  rw [changeRole_ri_silent (by simpa using htx) (by decide), ← hcount]
  cases c <;> rfl

/-! ## A record on its way to the share and admission unit (R170, R175) -/

/-- One that finds the role no longer OWNER is dropped in its class (R170). -/
theorem record_outsideOwner {e : RingEntry} {s : State} (hlow : s.resetLow = false) (hrole : s.ou.role ≠ .owner)
    (hw : s.waiting = { record := some (.admission, e), burst := false }) :
    exec .outputPeriodEnd s = .next (attempt (countDrop e.cls
      { s with gau := transferDuty s.gau, waiting := nothingWaits })) := by
  change execOutputPeriodEnd s = _
  rw [execOutputPeriodEnd, whenRunning_high hlow, takeWaiting_record (route := .admission) (r := e) (by exact hw), deliver,
    offerRecord_outside _ (by exact hrole)]
  rfl

/-- One taken after an admission tick is tested against the raised credit (R168, R170). -/
theorem record_afterTick {e : RingEntry} {s : State} (hlow : s.resetLow = false) (hrole : s.ou.role = .owner)
    (ht : s.sau.ticking = true) (hw : s.waiting = { record := some (.admission, e), burst := false }) :
    exec .admissionTick s = .next (attempt (offerRecord (queueEntry e) { creditTick s with waiting := nothingWaits })) := by
  have htick : (if s.sau.ticking ∧ s.ou.role = .owner then creditTick s else s) = creditTick s := if_pos ⟨ht, hrole⟩
  change execAdmissionTick s = _
  rw [execAdmissionTick, whenRunning_high hlow, htick, takeWaiting_record (route := .admission) (r := e) (by exact hw), deliver]

theorem exec_silenceAssert {s : State} (hlow : s.resetLow = false) (hs : s.silence = false) :
    exec .silenceAssert s = .next (takeWaiting (silenceStation { s with silence := true })) := by
  change execSilenceAssert s = _
  rw [execSilenceAssert, if_neg (by rw [hlow]; exact nofun), whenRunning_high hlow, assertSilence,
    if_neg (by rw [hs]; exact nofun)]

/-- The first entry that covers an identifier, by its place in the table. -/
theorem coversFirst_of_getElem {id i : Nat} {table : List ServiceEntry} {e : ServiceEntry} (h : table[i]? = some e)
    (hfirst : ∀ j < i, ∀ f, table[j]? = some f → covers id f = false) (he : covers id e = true) :
    coversFirst id table (table.take i) e (table.drop (i + 1)) := by
  obtain ⟨hi, hget⟩ := List.getElem?_eq_some_iff.mp h
  refine ⟨?_, fun x hx => ?_, he⟩
  · rw [← hget, ← List.drop_eq_getElem_cons hi, List.take_append_drop]
  · obtain ⟨j, hj, hx⟩ := List.mem_iff_getElem.mp hx
    rw [List.length_take] at hj
    rw [List.getElem_take] at hx
    exact hfirst j (by omega) x (List.getElem?_eq_some_iff.mpr ⟨by omega, hx⟩)

theorem silenceStation_waiting (s : State) : (silenceStation s).waiting = s.waiting := by simp [silenceStation]

section
variable {s : State} (hlow : s.resetLow = false) (hs : s.silence = false) (hr : s.ou.role = .owner) (ha : s.gau.acq = .track)
include hlow hs hr ha

/-- An owner with nothing on its way, cut off by SILENCE (R112, R137). -/
theorem silenced_owner (hw : s.waiting = nothingWaits) : ∃ t, exec .silenceAssert s = .next t ∧ t.ou.role = .standby
    ∧ t.sau = { s.sau with share := 0, credit := 0 } ∧ ∀ c, (dropsOf c t.ri).count = cutOffDrops c s.ri := by
  refine ⟨_, exec_silenceAssert hlow hs, ?_⟩
  rw [takeWaiting_nothing ((silenceStation_waiting { s with silence := true }).trans hw)]
  exact silenceStation_owner (s := { s with silence := true }) hr ha

/-- A record on its way finds the role no longer OWNER, and is one drop more in its class (R137, R170, R175). -/
theorem silenced_record {e : RingEntry} (hw : s.waiting = { record := some (.admission, e), burst := false }) :
    ∃ t, exec .silenceAssert s = .next t ∧ t.ou.role = .standby ∧ t.sau = { s.sau with share := 0, credit := 0 }
      ∧ ∀ c, (dropsOf c t.ri).count = min 255 (cutOffDrops c s.ri + if c = e.cls then 1 else 0) := by
  obtain ⟨hrole, hsau, hdrops⟩ := silenceStation_owner (s := { s with silence := true }) hr ha
  refine ⟨_, exec_silenceAssert hlow hs, ?_⟩
  rw [takeWaiting_record ((silenceStation_waiting { s with silence := true }).trans hw), deliver,
    offerRecord_outside _ (by simp [hrole])]
  refine ⟨by simpa using hrole, by simpa using hsau, fun c => ?_⟩
  obtain ⟨-, hattempt, -⟩ := attempt_line c
    (countDrop (queueEntry e).cls { silenceStation { s with silence := true } with waiting := nothingWaits })
  rw [hattempt, countDrop_count, hdrops c, show (queueEntry e).cls = e.cls from rfl, cutOffDrops]
  split <;> omega

end

/-! ## O31 -/

/-- A packet of a running station that an ACTIVE entry covers, its record left on its way to the share and admission unit. -/
theorem takePacket_routed {p : Packet} {s : State} {before after : List ServiceEntry} {e : ServiceEntry} (hr : running s)
    (ha : s.gau.acq = .track) (hrole : s.ou.role = .owner) (hphase : s.hbu.phase = .live) (hmsb : p[1].msb = false)
    (hid : packetIdentifier p ≠ 8191) (h : coversFirst (packetIdentifier p) s.services before e after)
    (he : e.suspension = .active) :
    takePacket p false true s = { s with
      pru := packetCounted false s.pru
      services := before ++ { e with thisPeriod := true } :: after
      waiting := { record := some (.admission, forwardable (packetRecord p false s.wu) e), burst := false } } := by
  have hflag : erroredFlag p false = false := by simp [erroredFlag, errorIndicator, hmsb]
  have hburst : s.waiting.burst = false := by rw [hr.2]; rfl
  rw [takePacket_track ha, hflag, lookup_active (s := tallied false s) hid h he, handOn]
  simp [routeOf, tallied, hrole, hphase, countError_short, packetCounted, hburst]

/-- The same packet, its record taken at once. -/
theorem takePacket_admitted {p : Packet} {s : State} {before after : List ServiceEntry} {e : ServiceEntry}
    (ha : s.gau.acq = .track) (hrole : s.ou.role = .owner) (hphase : s.hbu.phase = .live) (hmsb : p[1].msb = false)
    (hid : packetIdentifier p ≠ 8191) (h : coversFirst (packetIdentifier p) s.services before e after)
    (he : e.suspension = .active) :
    takePacket p false false s = aside (packetCounted false s.pru) (before ++ { e with thisPeriod := true } :: after)
      (offerRecord (queueEntry (forwardable (packetRecord p false s.wu) e)) s) := by
  have hflag : erroredFlag p false = false := by simp [erroredFlag, errorIndicator, hmsb]
  have hrecord := lookup_record (u := false) (packetCounted false s.pru) hid h he
  rw [hflag] at hrecord
  rw [takePacket_short ha (by rw [hflag]; exact nofun), hflag, hrecord]
  simp [takeRecord, hrole, hphase]

theorem attempt_pru (s : State) : (attempt s).pru = s.pru := by simp
theorem attempt_sau (s : State) : (attempt s).sau = s.sau := by simp

theorem attempt_cutOffDrops (c : ServiceClass) (s : State) : cutOffDrops c (attempt s).ri = cutOffDrops c s.ri := by
  obtain ⟨hqueue, hdrops, hline⟩ := attempt_line c s
  rw [cutOffDrops, cutOffDrops, hqueue, hdrops, hline]

theorem exec_packet_unsettled {q : Packet} {r : PacketReport} {s : State} (hlow : s.resetLow = false)
    (hrecord : s.waiting.record = none) (hl : r.reportLater = false) :
    exec (.packetDecoded q r) s = .next (attempt (settleBurst (takePacket q r.uncorrectable r.recordLater s))) := by
  change execPacketDecoded q r s = _
  simp [execPacketDecoded, packetEvent, settleRecord_none hrecord, hlow, hl]

/-- A packet that finds a report of ERROR_BURST on its way is still taken in TRACK, and the report enters HOLD after it (R62,
R63). -/
theorem exec_packet_beforeReport {q : Packet} {s : State} (hlow : s.resetLow = false) (ha : s.gau.acq = .track)
    (h0 : s.pru.errorRun = 0) (hw : s.waiting = { record := none, burst := true }) :
    ∃ t, exec (.packetDecoded q { uncorrectable := false, recordLater := false, reportLater := false }) s = .next t
      ∧ t.gau.acq = .hold ∧ t.gau.causes.errorBurst = true
      ∧ t.pru.tallies.allPackets = min 65535 (s.pru.tallies.allPackets + 1) := by
  refine ⟨_, exec_packet_unsettled hlow (by rw [hw]) rfl, ?_⟩
  obtain ⟨-, hwaiting, hgau, -⟩ := lookup_now_frame (packetRecord q false s.wu) (tallied (erroredFlag q false) s)
  rw [takePacket_short ha (fun _ => by rw [h0]; decide)]
  obtain ⟨hacq, -, hcauses, -, hpru, -⟩ := settleBurst_track
    (s := { lookup false (packetRecord q false s.wu) (tallied (erroredFlag q false) s) with
      pru := packetCounted (erroredFlag q false) s.pru })
    (by rw [hgau]; exact ha) (by rw [hwaiting]; exact congrArg Waiting.burst hw)
  simp only [attempt_frame]
  rw [hcauses, hpru]
  exact ⟨hacq, rfl, rfl⟩

/-- A packet in HOLD moves the error run alone, short of its 64th (R61, R63). -/
theorem exec_packet_held {q : Packet} {s : State} (hr : running s) (ha : s.gau.acq = .hold) (h0 : s.pru.errorRun = 0) :
    ∃ t, exec (.packetDecoded q { uncorrectable := false, recordLater := false, reportLater := false }) s = .next t
      ∧ t.gau = s.gau ∧ t.pru.tallies = s.pru.tallies := by
  have hpacket : takePacket q false false s = _ :=
    (takePacket_hold ha).trans (countError_short (fun _ => by rw [h0]; decide))
  refine ⟨_, exec_packet_attempts hr hpacket (by rw [hr.2]; rfl), ?_⟩
  simp

/-- Two packets in TRACK, the first the 64th errored one in a row: the second is taken in TRACK or in HOLD as the report of
ERROR_BURST is taken after it or before (R62, R63). -/
theorem packets_aroundReport (p q : Packet) (r : PacketReport) (s : State) (hr : running s) (ha : s.gau.acq = .track)
    (h63 : s.pru.errorRun = 63) (he : r.uncorrectable = true ∨ p[1].msb = true) (hnow : r.recordLater = false) :
    ∃ a t, exec (.packetDecoded p r) s = .next a
      ∧ exec (.packetDecoded q { uncorrectable := false, recordLater := false, reportLater := false }) a = .next t
      ∧ t.gau.acq = .hold ∧ t.gau.causes.errorBurst = true
      ∧ (r.reportLater = true → a.gau.acq = .track ∧ a.waiting = { record := none, burst := true }
        ∧ t.pru.tallies.allPackets = min 65535 (s.pru.tallies.allPackets + 2))
      ∧ (r.reportLater = false → a.gau.acq = .hold ∧ a.waiting = nothingWaits
        ∧ t.pru.tallies.allPackets = min 65535 (s.pru.tallies.allPackets + 1)) := by
  have hpacket : takePacket p r.uncorrectable r.recordLater s = burstRaised p r.uncorrectable s := by
    rw [hnow]; exact takePacket_burst ha (erroredFlag_iff.mpr he) h63
  obtain ⟨hreset, hgau, -⟩ := burstRaised_frame p r.uncorrectable s
  have hwaiting : (burstRaised p r.uncorrectable s).waiting = { record := none, burst := true } := by
    simp [burstRaised, hr.2, nothingWaits]
  have hall : (burstRaised p r.uncorrectable s).pru.tallies.allPackets = min 65535 (s.pru.tallies.allPackets + 1) := rfl
  cases hl : r.reportLater with
  | true =>
    obtain ⟨t, hexec, hacq, hcause, htally⟩ := exec_packet_beforeReport (q := q) (s := attempt (burstRaised p r.uncorrectable s))
      (by simp [hreset, hr.1]) (by simp [hgau, ha]) (by simp [burstRaised]) (by simp [hwaiting])
    refine ⟨_, t, exec_packet_later hr hl hpacket, hexec, hacq, hcause, fun _ => ⟨by simp [hgau, ha], by simp [hwaiting], ?_⟩,
      nofun⟩
    rw [htally, attempt_pru, hall]
    omega
  | false =>
    obtain ⟨hacq, -, hcauses, -, hpru, -⟩ := settleBurst_track (by rw [hgau]; exact ha) (congrArg Waiting.burst hwaiting)
    have hnone : (attempt (settleBurst (burstRaised p r.uncorrectable s))).waiting = nothingWaits := by
      simp [hwaiting, nothingWaits]
    have hzero : (burstRaised p r.uncorrectable s).pru.errorRun = 0 := rfl
    obtain ⟨t, hexec, htgau, htpru⟩ := exec_packet_held (q := q)
      (s := attempt (settleBurst (burstRaised p r.uncorrectable s))) ⟨by simp [hreset, hr.1], hnone⟩ (by simp [hacq])
      (by simp [hpru, leaveTrack, hzero])
    refine ⟨_, t, exec_packet_now hr hl hpacket, hexec, by simp [htgau, hacq], by simp [htgau, hcauses], nofun,
      fun _ => ⟨by simp [hacq], hnone, ?_⟩⟩
    rw [htpru]
    simp [hpru, leaveTrack, hall]

/-- A record still on its way is taken before the next packet, as if it had been taken already (R63, R148). -/
theorem exec_packet_settled {p : Packet} {r : PacketReport} {route : Route} {e : RingEntry} {s : State}
    (hlow : s.resetLow = false) (h : s.waiting.record = some (route, e)) : exec (.packetDecoded p r) s =
      exec (.packetDecoded p r) (deliver route e { s with waiting := { s.waiting with record := none } }) := by
  have hsettle : settleRecord s = deliver route e { s with waiting := { s.waiting with record := none } } := by
    simp [settleRecord, h]
  have hagain : settleRecord (settleRecord s) = settleRecord s := settleRecord_none (by simp)
  have hlow' : (settleRecord s).resetLow = false := by simp [hlow]
  rw [← hsettle]
  change execPacketDecoded p r s = execPacketDecoded p r (settleRecord s)
  rw [execPacketDecoded, execPacketDecoded, packetEvent, packetEvent, hagain, hlow, hlow',
    if_neg Bool.false_ne_true, if_neg Bool.false_ne_true]

/-- The two orders of an owner's admission and its cut-off by SILENCE: the drop counts are equal, and only the admission taken
first counts an offer (R170, R175). -/
theorem admission_aroundSilence {p : Packet} {s a b x y : State} {before after : List ServiceEntry} {e : ServiceEntry}
    (hr : running s) (ha : s.gau.acq = .track) (hrole : s.ou.role = .owner) (hphase : s.hbu.phase = .live)
    (hs : s.silence = false) (hid : packetIdentifier p ≠ 8191) (hmsb : p[1].msb = false)
    (h : coversFirst (packetIdentifier p) s.services before e after) (he : e.suspension = .active)
    (hnow : exec (.packetDecoded p { uncorrectable := false, recordLater := false, reportLater := false }) s = .next a)
    (hlate : exec (.packetDecoded p { uncorrectable := false, recordLater := true, reportLater := false }) s = .next b)
    (hx : exec .silenceAssert a = .next x) (hy : exec .silenceAssert b = .next y) :
    b.waiting.record.isSome = true ∧ x.ou.role ≠ .owner ∧ y.ou.role = x.ou.role ∧ x.sau.credit = 0 ∧ y.sau.credit = 0
      ∧ x.sau.offered = min 65535 (s.sau.offered + 1) ∧ y.sau.offered = s.sau.offered
      ∧ ∀ c, (dropsOf c y.ri).count = (dropsOf c x.ri).count
        ∧ (dropsOf c x.ri).count = min 255 ((dropsOf c s.ri).count + lineDrop c s.ri.tx + (queueOf c s.ri).length
          + if c = e.cls then 1 else 0) := by
  have hadmitted := takePacket_admitted ha hrole hphase hmsb hid h he
  have hrouted := takePacket_routed hr ha hrole hphase hmsb hid h he
  rw [exec_packet_attempts hr hadmitted (by simp [aside, hr.2, nothingWaits])] at hnow
  rw [exec_packet_attempts hr hrouted rfl] at hlate
  cases hnow
  cases hlate
  obtain ⟨x', hx', hxrole, hxsau, hxdrops⟩ := silenced_owner (s := attempt (aside (packetCounted false s.pru)
      (before ++ { e with thisPeriod := true } :: after)
      (offerRecord (queueEntry (forwardable (packetRecord p false s.wu) e)) s)))
    (by simp [aside, hr.1]) (by simp [aside, hs]) (by simp [aside, hrole]) (by simp [aside, ha])
    (by simp [aside, hr.2])
  obtain ⟨y', hy', hyrole, hysau, hydrops⟩ := silenced_record (e := forwardable (packetRecord p false s.wu) e)
    (s := attempt { s with
      pru := packetCounted false s.pru, services := before ++ { e with thisPeriod := true } :: after
      waiting := { record := some (.admission, forwardable (packetRecord p false s.wu) e), burst := false } })
    (by simp [hr.1]) (by simp [hs]) (by simp [hrole]) (by simp [ha]) (by simp)
  cases hx.symm.trans hx'
  cases hy.symm.trans hy'
  have hoffered := offerRecord_offered (queueEntry (forwardable (packetRecord p false s.wu) e)) hrole
  refine ⟨by simp, by simp [hxrole], by simp [hxrole, hyrole], by rw [hxsau], by rw [hysau], ?_, ?_, fun c => ?_⟩
  · rw [hxsau]
    simpa [aside] using hoffered
  · rw [hysau]
    simp
  · have hcount := cutOffDrops_offerRecord (queueEntry (forwardable (packetRecord p false s.wu) e)) c hrole
    have hx : (dropsOf c x.ri).count = _ := (hxdrops c).trans ((attempt_cutOffDrops c _).trans hcount)
    have hy : (dropsOf c y.ri).count = min 255 (cutOffDrops c s.ri + if c = e.cls then 1 else 0) :=
      (hydrops c).trans (by rw [attempt_cutOffDrops]; rfl)
    have hcls : (queueEntry (forwardable (packetRecord p false s.wu) e)).cls = e.cls := rfl
    rw [hcls] at hx
    refine ⟨?_, hx⟩
    rw [hx, hy, cutOffDrops]
    omega

/-- Settles O31: what waits is taken after the next command or before the next packet, by what its receiver then finds. -/
theorem waitingPartsAreTaken : Obligations.WaitingPartsAreTaken := by
  refine ⟨fun c s t hlow hreset hend hpacket h => exec_nothingWaits hlow hreset hend hpacket h,
    fun p r route e s hlow hrecord => ?before, packets_aroundReport, fun e s hlow hrole hw => ?outside,
    fun p s a b x y i e hr ha hrole hphase hs hid hmsb hi hfirst hcov he hnow hlate hx hy => ?cut,
    fun e s hlow hrole ht hw => ?tick⟩
  case before => exact exec_packet_settled hlow hrecord
  case outside =>
    refine ⟨_, record_outsideOwner hlow hrole hw, by simp, by simp, by simp, fun c => ?_⟩
    obtain ⟨hqueue, hdrops, -⟩ := attempt_line c (countDrop e.cls { s with gau := transferDuty s.gau, waiting := nothingWaits })
    rw [hqueue, hdrops, countDrop_count, countDrop, countDrops_queue]
    exact ⟨rfl, rfl⟩
  case cut =>
    exact admission_aroundSilence hr ha hrole hphase hs hid hmsb (coversFirst_of_getElem hi hfirst hcov) he hnow hlate hx hy
  case tick =>
    have hticked : ({ creditTick s with waiting := nothingWaits } : State).ou.role = .owner := hrole
    refine ⟨_, record_afterTick hlow hrole ht hw, ?_, ?_⟩
    · exact (congrArg Admission.offered (attempt_sau _)).trans (offerRecord_offered (queueEntry e) hticked)
    · obtain ⟨hcharged, hkept⟩ := offerRecord_credit (queueEntry e) hticked
      split
      case isTrue hp => exact (congrArg Admission.credit (attempt_sau _)).trans (hcharged hp)
      case isFalse hn => exact (congrArg Admission.credit (attempt_sau _)).trans (hkept hn)

end Sys2Proof.Machine

/-! # Proofs: configuration values and service entries as loaded (R75, R76, R79, R180, R185, R186) -/

namespace Sys2Proof.Machine

/-! ## Fields and their ranges (R180, R185) -/

theorem u8At_le (p : List Byte) (i : Nat) : u8At p i ≤ 255 := by
  have := (byteAt p i).isLt
  unfold u8At
  omega

theorem u16At_le (p : List Byte) (i : Nat) : u16At p i ≤ 65535 := by
  have := u8At_le p i
  have := u8At_le p (i + 1)
  unfold u16At
  omega

theorem clampNat_eq {lo hi : Nat} (x : Nat) (h : lo ≤ hi) : clampNat lo hi x = max lo (min hi x) := by
  unfold clampNat
  split <;> [skip; split] <;> omega

/-- A field that cannot pass the top of its range is held at the bottom alone. -/
theorem clampNat_of_le {lo hi x : Nat} (h : lo ≤ hi) (hx : x ≤ hi) : clampNat lo hi x = max lo x := by
  rw [clampNat_eq x h, Nat.min_eq_right hx]

/-! ## The records laid over the defaults (R185, R186) -/

/-- The STATION values, each from its own field. -/
theorem withStation_eq (p : List Byte) (c : Configuration) : withStation p c = { c with
    group := Fin.ofNat 16 (min 15 (u8At p 0)), reportPeriod := max 20 (min 500 (u16At p 1))
    silenceLimit := max 3 (min 15 (u8At p 3)), hysteresis := min 200 (u16At p 4)
    challengeLimit := max 1 (min 8 (u8At p 6)), meritFloor := min 1000 (u16At p 7)
    handoverTimeout := max 10 (min 200 (u8At p 9)), catchUpLimit := max 16 (u8At p 10) } := by
  have hlimit := clampNat_of_le (show 16 ≤ 255 by decide) (u8At_le p 10)
  simp [withStation, takenAt, stationFields, Field.taken, hlimit, clampNat_eq]

/-- The RECEPTION values, each from its own field. -/
theorem withReception_eq (r : List Byte) (c : Configuration) : withReception r c = { c with
    pinned := pinnedOfCode (min 8 (u8At r 0)), slew := max 1 (min 32 (u8At r 1)), peakThreshold := max 1 (u16At r 2)
    impulseThreshold := max 16 (min 64 (u8At r 4)), runEnd := max 8 (u8At r 5)
    eraseFraction := eraseOfCode (min 2 (u8At r 6)), holdLimit := max 8 (min 128 (u8At r 7))
    detectThreshold := max 16 (u8At r 8) } := by
  have hpeak := clampNat_of_le (show 1 ≤ 65535 by decide) (u16At_le r 2)
  have hend := clampNat_of_le (show 8 ≤ 255 by decide) (u8At_le r 5)
  have hdetect := clampNat_of_le (show 16 ≤ 255 by decide) (u8At_le r 8)
  simp [withReception, takenAt, receptionFields, Field.taken, hpeak, hend, hdetect, clampNat_eq]

/-- The SHARE values, each from its own field. -/
theorem withShare_eq (h : List Byte) (c : Configuration) : withShare h c = { c with
    budget := max 100 (min 11000 (u16At h 0)), floor := min 4095 (u16At h 2), burst := max 1 (min 64 (u8At h 4)) } := by
  simp [withShare, takenAt, shareFields, Field.taken, clampNat_eq]

/-- RECEPTION records move the RECEPTION values alone. -/
theorem foldl_withReception (q : List (List Byte)) (c : Configuration) : ∃ d : Configuration,
    q.foldl (fun c p => withReception p c) c = { c with
      pinned := d.pinned, slew := d.slew, peakThreshold := d.peakThreshold, impulseThreshold := d.impulseThreshold
      runEnd := d.runEnd, eraseFraction := d.eraseFraction, holdLimit := d.holdLimit
      detectThreshold := d.detectThreshold } := by
  induction q generalizing c with
  | nil => exact ⟨c, rfl⟩
  | cons p q ih => exact ih (withReception p c)

/-- SHARE records move the SHARE values alone. -/
theorem foldl_withShare (h : List (List Byte)) (c : Configuration) : ∃ d : Configuration,
    h.foldl (fun c p => withShare p c) c = { c with budget := d.budget, floor := d.floor, burst := d.burst } := by
  induction h generalizing c with
  | nil => exact ⟨c, rfl⟩
  | cons p h ih => exact ih (withShare p c)

section
variable {kept : List Record} {p : List Byte} (hp : payloadsOf .station kept = [p])
include hp

theorem takenConfiguration_eq : takenConfiguration kept = (payloadsOf .share kept).foldl (fun c p => withShare p c)
    ((payloadsOf .reception kept).foldl (fun c p => withReception p c) (withStation p defaults)) := by
  rw [takenConfiguration, hp]
  rfl

/-- STATION values are taken as if their record were laid last. -/
theorem takenConfiguration_station : ∃ d, takenConfiguration kept = withStation p d := by
  obtain ⟨c, hc⟩ := foldl_withReception (payloadsOf .reception kept) (withStation p defaults)
  obtain ⟨d, hd⟩ := foldl_withShare (payloadsOf .share kept)
    ((payloadsOf .reception kept).foldl (fun c p => withReception p c) (withStation p defaults))
  rw [takenConfiguration_eq hp, hd, hc]
  exact ⟨{ c with budget := d.budget, floor := d.floor, burst := d.burst }, rfl⟩

/-- RECEPTION values are taken as if their record were laid last. -/
theorem takenConfiguration_reception {r : List Byte} (hq : payloadsOf .reception kept = [r]) :
    ∃ d, takenConfiguration kept = withReception r d := by
  obtain ⟨d, hd⟩ := foldl_withShare (payloadsOf .share kept) (withReception r (withStation p defaults))
  rw [takenConfiguration_eq hp, hq, List.foldl_cons, List.foldl_nil, hd]
  exact ⟨{ withStation p defaults with budget := d.budget, floor := d.floor, burst := d.burst }, rfl⟩

theorem takenConfiguration_share {r : List Byte} (hh : payloadsOf .share kept = [r]) :
    ∃ d, takenConfiguration kept = withShare r d := by
  rw [takenConfiguration_eq hp, hh]
  exact ⟨_, rfl⟩

/-- Without a RECEPTION record its values are the defaults (R185). -/
theorem takenConfiguration_noReception (hq : payloadsOf .reception kept = []) : ∃ d : Configuration,
    takenConfiguration kept = { withStation p defaults with budget := d.budget, floor := d.floor, burst := d.burst } := by
  rw [takenConfiguration_eq hp, hq]
  exact foldl_withShare _ _

/-- Without a SHARE record its values are the defaults (R185). -/
theorem takenConfiguration_noShare (hh : payloadsOf .share kept = []) : ∃ d : Configuration,
    takenConfiguration kept = { d with budget := 6000, floor := 0, burst := 8 } := by
  obtain ⟨d, hd⟩ := foldl_withReception (payloadsOf .reception kept) (withStation p defaults)
  rw [takenConfiguration_eq hp, hh, List.foldl_nil, hd]
  exact ⟨{ withStation p d with
    pinned := d.pinned, slew := d.slew, peakThreshold := d.peakThreshold, impulseThreshold := d.impulseThreshold
    runEnd := d.runEnd, eraseFraction := d.eraseFraction, holdLimit := d.holdLimit
    detectThreshold := d.detectThreshold }, rfl⟩

end

theorem eraseOfCode_min (x : Nat) : (x = 0 → eraseOfCode (min 2 x) = .eighth)
    ∧ (x = 1 → eraseOfCode (min 2 x) = .sixteenth) ∧ (2 ≤ x → eraseOfCode (min 2 x) = .thirtySecond) := by
  refine ⟨fun h => by rw [h]; rfl, fun h => by rw [h]; rfl, fun h => ?_⟩
  rw [Nat.min_eq_left h]
  rfl

theorem pinnedOfCode_min (x : Nat) :
    pinnedOfCode (min 8 x) = if x = 0 then none else candidates[min 8 x - 1]? := by
  have h : min 8 x = 0 ↔ x = 0 := by omega
  simp only [pinnedOfCode, h]

/-! ## The configuration-clamped flag (R76, R186) -/

/-- Some STATION field lies outside its range. -/
theorem stationFields_outside (p : List Byte) : (stationFields p).any Field.outside = true ↔
    15 < u8At p 0 ∨ u16At p 1 < 20 ∨ 500 < u16At p 1 ∨ u8At p 3 < 3 ∨ 15 < u8At p 3 ∨ 200 < u16At p 4 ∨ u8At p 6 < 1
      ∨ 8 < u8At p 6 ∨ 1000 < u16At p 7 ∨ u8At p 9 < 10 ∨ 200 < u8At p 9 ∨ u8At p 10 < 16 := by
  have := u8At_le p 10
  simp only [stationFields, List.any_cons, List.any_nil, Field.outside, Bool.or_eq_true, Bool.or_false,
    decide_eq_true_eq]
  omega

/-- Some RECEPTION field lies outside its range. -/
theorem receptionFields_outside (p : List Byte) : (receptionFields p).any Field.outside = true ↔
    8 < u8At p 0 ∨ u8At p 1 < 1 ∨ 32 < u8At p 1 ∨ u16At p 2 < 1 ∨ u8At p 4 < 16 ∨ 64 < u8At p 4 ∨ u8At p 5 < 8
      ∨ 2 < u8At p 6 ∨ u8At p 7 < 8 ∨ 128 < u8At p 7 ∨ u8At p 8 < 16 := by
  have := u16At_le p 2
  have := u8At_le p 5
  have := u8At_le p 8
  simp only [receptionFields, List.any_cons, List.any_nil, Field.outside, Bool.or_eq_true, Bool.or_false,
    decide_eq_true_eq]
  omega

/-- Some SHARE field lies outside its range. -/
theorem shareFields_outside (p : List Byte) : (shareFields p).any Field.outside = true ↔
    u16At p 0 < 100 ∨ 11000 < u16At p 0 ∨ 4095 < u16At p 2 ∨ u8At p 4 < 1 ∨ 64 < u8At p 4 := by
  simp only [shareFields, List.any_cons, List.any_nil, Field.outside, Bool.or_eq_true, Bool.or_false,
    decide_eq_true_eq]
  omega

theorem codedCount_bounds (n : Nat) : 1 ≤ codedCount n ∧ codedCount n ≤ 1024 := by
  unfold codedCount
  split <;> omega

/-- The load of an entry changes its count, its range or its offset. -/
theorem entryClamped_iff (e : RawEntry) : entryClamped e = true ↔
    1024 < e.count ∨ 8191 ≤ e.first ∨ (e.mode = 1 ∧ 8190 < e.value) ∨ 8191 < e.first + codedCount e.count := by
  obtain ⟨hone, -⟩ := codedCount_bounds e.count
  simp only [entryClamped, Bool.or_eq_true, Bool.and_eq_true, decide_eq_true_eq, beq_iff_eq]
  omega

/-- Some value is clamped in one of the four kinds of record. -/
theorem imageClamped_iff (kept : List Record) : imageClamped kept = true ↔
    (∃ p ∈ payloadsOf .station kept, (stationFields p).any Field.outside = true)
    ∨ (∃ p ∈ payloadsOf .reception kept, (receptionFields p).any Field.outside = true)
    ∨ (∃ p ∈ payloadsOf .share kept, (shareFields p).any Field.outside = true)
    ∨ ∃ e ∈ imageEntries kept, entryClamped e = true := by
  simp only [imageClamped, Bool.or_eq_true, List.any_flatMap, or_assoc]
  simp only [List.any_eq_true (l := payloadsOf _ _), List.any_eq_true (l := imageEntries _)]

/-! ## Service entries (R75, R76, R79) -/

/-- A loaded range lies within the identifiers 0 to 8190, and is empty exactly when it begins past them (R76). -/
theorem loadedRange_bounds (first field : Nat) :
    let range := loadedRange first (codedCount field)
    range.1 ≤ 8191 ∧ range.2 ≤ 1024 ∧ (range.2 = 0 ↔ 8191 ≤ first) ∧ range.1 + range.2 ≤ 8191 := by
  obtain ⟨hone, htop⟩ := codedCount_bounds field
  unfold loadedRange
  split
  case isTrue h => exact ⟨Nat.le_refl _, Nat.zero_le _, ⟨fun _ => h, fun _ => rfl⟩, Nat.le_refl _⟩
  case isFalse h => split <;> simp only <;> omega

/-- A sound entry forms output identifiers up to 8190 from input identifiers up to 8190 (R76, R79, R183). -/
theorem loadedEntry_output {e : RawEntry} (he : entrySound e = true) {i : Nat} (hi : i ≤ 8190) :
    outputIdentifier (loadedEntry e) i ≤ 8190 := by
  simp only [entrySound, Bool.and_eq_true, Bool.or_eq_true, decide_eq_true_eq, bne_iff_ne, beq_iff_eq] at he
  unfold outputIdentifier loadedEntry loadedMode
  by_cases hkeep : e.mode = 0
  · simpa [hkeep] using hi
  · by_cases hoffset : e.mode = 1
    · simp only [hoffset]
      change (i + min 8190 e.value) % 8191 ≤ 8190
      omega
    · simp only [hkeep, hoffset]
      change e.value ≤ 8190
      omega

/-- Settles O8: each value comes from its own field, the flag follows the fields, and a loaded entry keeps to 0..8190. -/
theorem loadedValuesLieInRange : Obligations.LoadedValuesLieInRange := by
  refine ⟨fun kept p hp => ⟨?station, fun r hq => ?reception, fun r hh => ?share, fun hq => ?noReception,
    fun hh => ?noShare⟩, fun kept => ?clamped, fun e he => ?entry⟩
  case station =>
    obtain ⟨d, hd⟩ := takenConfiguration_station hp
    rw [hd, withStation_eq]
    refine ⟨?_, rfl, rfl, rfl, rfl, rfl, rfl, rfl⟩
    exact Nat.mod_eq_of_lt (by omega)
  case reception =>
    obtain ⟨d, hd⟩ := takenConfiguration_reception hp hq
    obtain ⟨hzero, hone, htwo⟩ := eraseOfCode_min (u8At r 6)
    rw [hd, withReception_eq]
    exact ⟨pinnedOfCode_min _, rfl, rfl, rfl, rfl, hzero, hone, htwo, rfl, rfl⟩
  case share =>
    obtain ⟨d, hd⟩ := takenConfiguration_share hp hh
    rw [hd, withShare_eq]
    exact ⟨rfl, rfl, rfl⟩
  case noReception =>
    obtain ⟨d, hd⟩ := takenConfiguration_noReception hp hq
    rw [hd]
    exact ⟨rfl, rfl, rfl, rfl, rfl, rfl, rfl, rfl⟩
  case noShare =>
    obtain ⟨d, hd⟩ := takenConfiguration_noShare hp hh
    rw [hd]
    exact ⟨rfl, rfl, rfl⟩
  case clamped =>
    rw [imageClamped_iff]
    simp only [stationFields_outside, receptionFields_outside, shareFields_outside, entryClamped_iff, codedCount]
  case entry =>
    obtain ⟨hfirst, hcount, hempty, hend⟩ := loadedRange_bounds e.first e.count
    refine ⟨hfirst, hcount, hempty, fun i hi => ?_⟩
    have hcovered : (loadedEntry e).first ≤ i ∧ i < (loadedEntry e).first + (loadedEntry e).count := by
      simpa [covers] using hi
    have htop : i ≤ 8190 := Nat.le_of_lt_succ (Nat.lt_of_lt_of_le hcovered.2 hend)
    exact ⟨htop, loadedEntry_output he htop⟩

end Sys2Proof.Machine

/-! # Proofs: decoded records at the hold-back unit (R80, R140, R141, R146 to R148, R152, R153, R155, R156) -/

namespace Sys2Proof.Machine

/-! ## The lamp (R189) -/

theorem refreshLamp_eq (s : State) : refreshLamp s = { s with iu := (refreshLamp s).iu } := by
  unfold refreshLamp
  split <;> rfl

theorem goLive_eq (s : State) : goLive s = { s with hbu := { s.hbu with phase := .live }, iu := (goLive s).iu } :=
  refreshLamp_eq _

/-! ## A record joins the ring (R140) -/

theorem not_draining_of_role {s : State} (h : s.ou.role = .standby ∨ s.ou.role = .taking) : ¬draining s := by
  rcases h with h | h <;> simp [draining, h]

/-- Outside DRAIN expired entries leave uncounted. -/
theorem expireRing_quiet (b : Nat) {s : State} (h : ¬draining s) :
    expireRing b s = { s with hbu := { s.hbu with ring := ringAfterExpiry b s.hbu.ring } } := if_neg h

theorem expireRing_nothing {b : Nat} {s : State} {e : RingEntry} {rest : List RingEntry} (hring : s.hbu.ring = e :: rest)
    (he : expired b e = false) : expireRing b s = s := by
  have hgone : s.hbu.ring.takeWhile (expired b) = [] := by simp [hring, he]
  have hkept : ringAfterExpiry b s.hbu.ring = s.hbu.ring := by simp [ringAfterExpiry, hring, he]
  unfold expireRing
  rw [hgone, hkept]
  exact ite_self _

theorem placeInRing_room (r : RingEntry) {s : State} (h : s.hbu.ring.length ≤ 127) :
    placeInRing r s = { s with hbu := { s.hbu with ring := s.hbu.ring ++ [r] } } := if_neg (by omega)

/-- Outside DRAIN a full ring loses its oldest entry uncounted. -/
theorem placeInRing_quiet (r : RingEntry) {s : State} (hdrain : ¬draining s) (h : s.hbu.ring.length ≤ 128) :
    placeInRing r s = { s with hbu := { s.hbu with
      ring := s.hbu.ring.drop (s.hbu.ring.length - 127) ++ [r] } } := by
  by_cases hfull : s.hbu.ring.length = 128
  · rw [placeInRing, if_pos (by omega), if_neg hdrain, hfull]
  · rw [placeInRing_room r (by omega), Nat.sub_eq_zero_of_le (by omega)]
    rfl

theorem appendRing_quiet (r : RingEntry) {s : State} (hdrain : ¬draining s) (h : s.hbu.ring.length ≤ 128) :
    let kept := ringAfterExpiry r.stamp s.hbu.ring
    appendRing r s = { s with hbu := { s.hbu with ring := kept.drop (kept.length - 127) ++ [r] } } := by
  have hkept : (ringAfterExpiry r.stamp s.hbu.ring).length ≤ 128 :=
    (List.dropWhile_suffix (expired r.stamp)).length_le.trans h
  rw [appendRing, expireRing_quiet _ hdrain]
  exact placeInRing_quiet r hdrain hkept

/-! ## Records in STANDBY and TAKING (R146, R147) -/

theorem dropThrough_signature {g : Signature} {lead old rest : List Signature} (h : lead = old ++ g :: rest)
    (hold : g ∉ old) : dropThrough (fun x => decide (x = g)) lead = some rest :=
  dropThrough_eq_some.mpr ⟨old, g, h, decide_eq_true rfl, fun _ hx => decide_eq_false fun he => hold (he ▸ hx)⟩

theorem dropThrough_noSignature {g : Signature} {lead : List Signature} (h : g ∉ lead) :
    dropThrough (fun x => decide (x = g)) lead = none :=
  dropThrough_eq_none.mpr fun _ hx => decide_eq_false fun he => h (he ▸ hx)

theorem takeRecord_standby (r : RingEntry) {s : State} (h : s.ou.role = .standby ∨ s.ou.role = .taking) :
    takeRecord r s = standbyRecord r s := by
  rcases h with h | h <;> simp [takeRecord, h]

theorem standbyRecord_noLead (r : RingEntry) {s : State} (h : s.hbu.lead = []) : standbyRecord r s = appendRing r s :=
  if_pos h

theorem standbyRecord_errored {r : RingEntry} {s : State} (h : s.hbu.lead ≠ []) (he : r.errored = true) :
    standbyRecord r s = s := by
  rw [standbyRecord, if_neg h, if_pos he]

theorem standbyRecord_matched {r : RingEntry} {s : State} {old rest : List Signature} (he : r.errored = false)
    (hlead : s.hbu.lead = old ++ r.signature :: rest) (hold : r.signature ∉ old) :
    standbyRecord r s = { s with hbu := { s.hbu with lead := rest } } := by
  rw [standbyRecord, if_neg (by simp [hlead]), if_neg (by simp [he]), dropThrough_signature hlead hold]

theorem standbyRecord_unmatched {r : RingEntry} {s : State} (he : r.errored = false) (hlead : s.hbu.lead ≠ [])
    (hnone : r.signature ∉ s.hbu.lead) :
    standbyRecord r s = appendRing r { s with hbu := { s.hbu with lead := [] } } := by
  rw [standbyRecord, if_neg hlead, if_neg (by simp [he]), dropThrough_noSignature hnone]

/-! ## Records in CATCH_UP (R152, R153) -/

/-- CATCH_UP with one record more counted (R152). -/
def caughtUp (s : State) : State := { s with hbu := { s.hbu with catchUpCount := s.hbu.catchUpCount + 1 } }

section
variable {r : RingEntry} {s : State} (hrole : s.ou.role = .owner) (hphase : s.hbu.phase = .catchUp)
  (hcount : s.hbu.catchUpCount + 1 < s.cfg.catchUpLimit)
include hrole hphase hcount

theorem takeRecord_catchUp_errored (he : r.errored = true) : takeRecord r s = caughtUp s := by
  have hlimit : ¬s.cfg.catchUpLimit ≤ s.hbu.catchUpCount + 1 := Nat.not_le.mpr hcount
  simp [takeRecord, hrole, hphase, catchUpRecord, hlimit, he, caughtUp]

/-- A clean record takes its signature and every older one off the lead list, and the last one ends CATCH_UP (R153). -/
theorem takeRecord_catchUp_matched {old rest : List Signature} (hlead : s.hbu.lead = old ++ r.signature :: rest)
    (hold : r.signature ∉ old) (he : r.errored = false) :
    (rest ≠ [] → takeRecord r s = { caughtUp s with hbu := { (caughtUp s).hbu with lead := rest } })
    ∧ (rest = [] → takeRecord r s = goLive { caughtUp s with hbu := { (caughtUp s).hbu with lead := [] } }) := by
  have hlimit : ¬s.cfg.catchUpLimit ≤ s.hbu.catchUpCount + 1 := Nat.not_le.mpr hcount
  have hrecord : takeRecord r s = catchUpRecord r s := by simp [takeRecord, hrole, hphase]
  rw [hrecord, catchUpRecord, if_neg hlimit, if_neg (by simp [he])]
  simp only [dropThrough_signature hlead hold]
  exact ⟨fun hrest => if_neg hrest, fun hrest => by rw [if_pos hrest, hrest]; rfl⟩

end

/-! ## Records in DRAIN (R155, R156) -/

/-- A PREMIUM packet with room in its queue is always admitted (R171, R173). -/
theorem admissionAnswer_premium {s : State} (h : s.ri.premium.length < 8) : admissionAnswer .premium s = .admitted := by
  rw [admissionAnswer, passesCredit, if_pos rfl]
  exact if_pos h

/-- A PREMIUM entry with room in its queue leaves the ring's oldest end for the queue (R156, R173). -/
theorem offerEntries_premium {n : Nat} {s : State} {e : RingEntry} {rest : List RingEntry}
    (hring : s.hbu.ring = e :: rest) (hcls : e.cls = .premium) (hroom : s.ri.premium.length < 8) : offerEntries (n + 1) s = offerEntries n { s with
      hbu := { s.hbu with ring := rest }
      sau := { s.sau with credit := chargedCredit s, offered := satAdd 65535 s.sau.offered 1 }
      ri := { s.ri with premium := s.ri.premium ++ [queueEntry e] } } := by
  have hadmitted : admissionAnswer e.cls s = .admitted := by rw [hcls]; exact admissionAnswer_premium hroom
  have hqueue : (queueEntry e).cls = .premium := hcls
  simp only [offerEntries, hring, hadmitted, admitEntry, hqueue]
  rfl

/-- A record in DRAIN whose two oldest ring entries are PREMIUM and find room (R155, R156). -/
theorem takeRecord_drain_admitted {r a b : RingEntry} {rest : List RingEntry} {s : State} (hrole : s.ou.role = .owner)
    (hphase : s.hbu.phase = .drain) (hring : s.hbu.ring = a :: b :: rest) (hlen : s.hbu.ring.length ≤ 127)
    (hage : expired r.stamp a = false) (ha : a.cls = .premium) (hb : b.cls = .premium) (hroom : s.ri.premium.length ≤ 6) :
    ∃ credit, takeRecord r s = { s with
      hbu := { s.hbu with ring := rest ++ [r] }
      sau := { s.sau with credit := credit, offered := satAdd 65535 s.sau.offered 2 }
      ri := { s.ri with premium := s.ri.premium ++ [queueEntry a, queueEntry b] } } := by
  have htake : takeRecord r s = drainOffer (placeInRing r s) := by
    simp [takeRecord, hrole, hphase, drainRecord, expireRing_nothing hring hage, hring]
  rw [htake, placeInRing_room r hlen, drainOffer,
    offerEntries_premium (rest := b :: rest ++ [r]) (by simp [hring]) ha (by simp only; omega),
    offerEntries_premium (rest := rest ++ [r]) rfl hb (by simp; omega), offerEntries]
  dsimp only
  rw [if_neg (by simp), satAdd_satAdd, List.append_assoc]
  exact ⟨_, rfl⟩

/-- Settles O28: each role and phase takes a record by its own rule. -/
theorem recordsMoveRingAndLead : Obligations.RecordsMoveRingAndLead := by
  refine ⟨fun r s hrole hsound => ?standby, fun r s hrole hphase hcount => ⟨?errored, ?matched⟩,
    fun r a b rest s hrole hphase hring hlen hage ha hb hroom => ?drain, fun r s hrole => ?idle⟩
  case standby =>
    obtain ⟨hring, -, hexclusive, -⟩ := hsound
    rw [takeRecord_standby r hrole]
    refine ⟨fun hlead => ?_, fun hlead he => standbyRecord_errored hlead he,
      fun old rest hlead hold he => standbyRecord_matched he hlead hold, fun hlead hnone he => ?_⟩
    · rw [standbyRecord_noLead r hlead]
      exact appendRing_quiet r (not_draining_of_role hrole) hring
    · have hempty : s.hbu.ring = [] := hexclusive.resolve_right hlead
      have happend := appendRing_quiet r (s := { s with hbu := { s.hbu with lead := [] } })
        (not_draining_of_role hrole) hring
      rw [standbyRecord_unmatched he hlead hnone, happend]
      simp [hempty, ringAfterExpiry]
  case errored => exact fun he => takeRecord_catchUp_errored hrole hphase hcount he
  case matched =>
    intro old rest hlead hold he
    obtain ⟨hmore, hlast⟩ := takeRecord_catchUp_matched hrole hphase hcount hlead hold he
    exact ⟨hmore, fun hrest => by rw [hlast hrest]; exact goLive_eq _⟩
  case drain =>
    have hkept : expired r.stamp a = false := decide_eq_false (Nat.not_le.mpr hage)
    obtain ⟨credit, h⟩ := takeRecord_drain_admitted hrole hphase hring hlen hkept ha hb hroom
    rw [h]
    exact ⟨rfl, rfl, rfl, rfl⟩
  case idle => rcases hrole with h | h <;> simp [takeRecord, h]

end Sys2Proof.Machine

/-! # Proofs: timers and holds (R85, R87, R91, R111, R119, R120, R122, R130, R151, R155 to R157, R191, R192) -/

namespace Sys2Proof.Machine

/-! ## Attempts (R91) -/

theorem attempt_eq (s : State) : attempt s = { s with ri := (attempt s).ri } := by
  rcases attempt_cases s with h | ⟨sel, -, -, -, h⟩ <;> rw [h]

/-- An attempt leaves the pending TAKE, the address clash hold and its flag. -/
theorem attempt_holds (s : State) : (attempt s).ri.takeSlot = s.ri.takeSlot
    ∧ (attempt s).ri.clashHold = s.ri.clashHold ∧ (attempt s).ri.clashFlag = s.ri.clashFlag := by
  rcases attempt_cases s with h | ⟨sel, -, -, -, h⟩ <;> rw [h] <;> exact ⟨rfl, rfl, rfl⟩

theorem attempt_starts {s : State} {sel : Selection} (hidle : s.ri.busView = .idle) (htx : s.ri.tx = .silent)
    (h : allowedFrame s = some sel) :
    attempt s = { s with ri := { s.ri with busView := .busy, tx := .arbitrating sel } } := by
  rw [attempt, if_pos ⟨hidle, htx⟩, h]

/-- A waiting STATUS is the frame to start when no YIELD and no TAKE stand before it (R97). -/
theorem allowedFrame_status {s : State} (hs : s.silence = false) (hc : s.ri.clashHold = none) (hy : s.ri.yieldSlot = none)
    (ht : s.ri.takeSlot = none) (hstatus : s.ri.statusSlot = true) : allowedFrame s = some .status := by
  simp [allowedFrame, mayTransmit, selectFrame, hs, hc, hy, ht, hstatus]

/-! ## The entry into OWNER (R122, R151, R155 to R157) -/

theorem admitEntry_takeSlot (e : QueueEntry) (s : State) : (admitEntry e s).ri.takeSlot = s.ri.takeSlot := by
  unfold admitEntry withQueue
  cases e.cls <;> rfl

/-- A drain offer takes entries from the oldest end of the ring, and leaves the other stores and the pending TAKE. -/
theorem offerEntries_takes (n : Nat) (s : State) :
    (∃ gone, gone.length ≤ n ∧ s.hbu.ring = gone ++ (offerEntries n s).hbu.ring)
    ∧ (offerEntries n s).hbu = { s.hbu with ring := (offerEntries n s).hbu.ring }
    ∧ (offerEntries n s).ri.takeSlot = s.ri.takeSlot := by
  have stays (n : Nat) (s : State) : (∃ gone, gone.length ≤ n ∧ s.hbu.ring = gone ++ s.hbu.ring)
      ∧ s.hbu = { s.hbu with ring := s.hbu.ring } ∧ s.ri.takeSlot = s.ri.takeSlot :=
    ⟨⟨[], Nat.zero_le _, rfl⟩, rfl, rfl⟩
  induction n generalizing s with
  | zero => exact stays _ s
  | succ n ih =>
    unfold offerEntries
    split
    case h_1 => exact stays _ s
    case h_2 e rest hring =>
      have leaves (u : State) (hhbu : u.hbu = { s.hbu with ring := rest }) (htake : u.ri.takeSlot = s.ri.takeSlot) :
          (∃ gone, gone.length ≤ n + 1 ∧ s.hbu.ring = gone ++ (offerEntries n u).hbu.ring)
          ∧ (offerEntries n u).hbu = { s.hbu with ring := (offerEntries n u).hbu.ring }
          ∧ (offerEntries n u).ri.takeSlot = s.ri.takeSlot := by
        obtain ⟨⟨gone, hlen, hgone⟩, hrest, hslot⟩ := ih u
        rw [hhbu] at hgone hrest
        exact ⟨⟨e :: gone, Nat.succ_le_succ hlen, by rw [hring, List.cons_append, ← hgone]⟩, hrest, hslot.trans htake⟩
      split
      case h_1 => exact leaves _ (by simp) (admitEntry_takeSlot _ _)
      case h_2 => exact leaves _ (by simp) (by simp [countOffered, countDrop])
      case h_3 => exact stays _ s

/-- What a drain offer leaves of the stores (R156, R157). -/
theorem drainOffer_hbu (s : State) : ∃ gone, gone.length ≤ 2 ∧ s.hbu.ring = gone ++ (drainOffer s).hbu.ring
    ∧ (drainOffer s).hbu = { s.hbu with
      ring := (drainOffer s).hbu.ring, phase := if (drainOffer s).hbu.ring = [] then .live else s.hbu.phase } := by
  obtain ⟨⟨gone, hlen, hring⟩, hhbu, -⟩ := offerEntries_takes 2 s
  refine ⟨gone, hlen, ?_⟩
  unfold drainOffer
  dsimp only
  split
  case isTrue hempty =>
    rw [goLive_eq]
    refine ⟨hring, ?_⟩
    rw [if_pos hempty, hhbu]
  case isFalse hmore => exact ⟨hring, hhbu⟩

theorem drainOffer_takeSlot (s : State) : (drainOffer s).ri.takeSlot = s.ri.takeSlot := by
  obtain ⟨-, -, htake⟩ := offerEntries_takes 2 s
  unfold drainOffer
  dsimp only
  split
  · simpa using htake
  · exact htake

/-- A new owner before its first drain offer: TAKE withdrawn, first tick of credit given, anchor resolved (R122, R151,
R169). -/
def newOwner (a : Option Signature) (s : State) : State :=
  let s := setRole .owner (withdrawTake (stopHandover s))
  let s := recomputeShare { s with ri := { s.ri with lastSent := none } }
  let s := creditTick { s with sau := { s.sau with credit := 0 } }
  { s with hbu := resolveAnchor a s.hbu }

theorem newOwner_frame (a : Option Signature) (s : State) : (newOwner a s).hbu = resolveAnchor a s.hbu
    ∧ (newOwner a s).ou.role = .owner ∧ (newOwner a s).ri.takeSlot = none := by
  simp [newOwner]

/-- The drain offer a new owner makes where its anchor gave DRAIN (R155). -/
def firstOffer (s : State) : State := if s.hbu.phase = .drain then drainOffer s else s

theorem enterOwner_newOwner (a : Option Signature) (s : State) :
    enterOwner a s = startFlash (refreshLamp (requestStatus (firstOffer (newOwner a s)))) := rfl

theorem firstOffer_frame (s : State) : (firstOffer s).ou = s.ou ∧ (firstOffer s).ri.takeSlot = s.ri.takeSlot := by
  unfold firstOffer
  split
  · exact ⟨by simp, drainOffer_takeSlot s⟩
  · exact ⟨rfl, rfl⟩

/-- A new owner's stores are its anchor's resolution, less what its first drain offer takes. -/
theorem enterOwner_hbu (a : Option Signature) (s : State) : ownsFrom a s.hbu (enterOwner a s).hbu := by
  obtain ⟨hhbu, -, -⟩ := newOwner_frame a s
  have hdone : (enterOwner a s).hbu = (firstOffer (newOwner a s)).hbu := by simp [enterOwner_newOwner]
  rw [hdone, ownsFrom, ← hhbu, firstOffer]
  refine ⟨fun h => by rw [if_neg h], fun h => ?_⟩
  obtain ⟨gone, hlen, hring, hleft⟩ := drainOffer_hbu (newOwner a s)
  rw [if_pos h]
  exact ⟨gone, hlen, hring, hleft.trans (by rw [h])⟩

theorem enterOwner_takeSlot (a : Option Signature) (s : State) : (enterOwner a s).ri.takeSlot = none := by
  simp [enterOwner_newOwner, firstOffer_frame, newOwner_frame]

theorem basePattern_owner {s : State} (h : s.ou.role = .owner) : basePattern s ≠ .slowBlink := by
  have hslow : ¬((s.ou.role = .standby ∨ s.ou.role = .yielding) ∧ s.gau.acq = .track) := by simp [h]
  unfold basePattern
  rw [if_neg hslow]
  repeat' split
  all_goals exact nofun

theorem enterOwner_pattern (a : Option Signature) (s : State) : (enterOwner a s).iu.pattern ≠ .slowBlink := by
  rw [enterOwner_newOwner, startFlash_pattern, refreshLamp_pattern]
  exact basePattern_owner (by simp [firstOffer_frame, newOwner_frame])

/-! ## The handover timer (R119, R120, R124, R130) -/

theorem lastOwnerSignature_eq (s : State) : lastOwnerSignature s = lastHeard s.ou.lastPayloadSender s.ou.peers := by
  unfold lastOwnerSignature lastHeard
  cases s.ou.lastPayloadSender with
  | none => rfl
  | some a => cases h : peerOf a s.ou.peers <;> simp [h]

/-- A station knows a rival OWNER exactly when one is in view (R118, R124). -/
theorem rivalOwner_isSome {s : State} : (rivalOwner s).isSome = true ↔ ∃ p ∈ s.ou.peers, rivalOwning s p := by
  have hrival (p : Peer) : (p.role = .owner ∧ isRival s.cfg.group p = true) ↔ rivalOwning s p := by
    simp only [isRival, rivalOwning, decide_eq_true_eq]
    tauto
  simp [rivalOwner, rivals, Option.isSome_iff_ne_none, bestOf_eq_none, ← hrival]

theorem exec_handoverTimerExpiry {n : Nat} {s : State} (hr : running s) (hn : s.ou.handoverTimer = some n) :
    exec .handoverTimerExpiry s = .next (attempt (handoverDecision (stopHandover s))) := by
  have heffect : (if s.ou.handoverTimer.isSome then attempt (handoverDecision (stopHandover s)) else s)
      = attempt (handoverDecision (stopHandover s)) := if_pos (by rw [hn]; rfl)
  have hmoves : Moves roleBlocks s (attempt (handoverDecision (stopHandover s))) :=
    (moves_stopHandover s).trans ((moves_handoverDecision _).trans ((moves_attempt _).mono ri_roleBlocks))
  rw [← heffect] at hmoves ⊢
  exact whenRunning_moves hr (by decide) hmoves (f := fun s =>
    if s.ou.handoverTimer.isSome then attempt (handoverDecision (stopHandover s)) else s)

/-- A take given up for STANDBY: the stores stand, the timer stops, and no TAKE is left pending (R121, R127). -/
theorem giveUpTake_standby {s : State} (hrole : s.ou.role = .taking) :
    (giveUpTake .standby s).ou = { s.ou with role := .standby, challengeCount := 0, handoverTimer := none }
    ∧ (giveUpTake .standby s).hbu = { s.hbu with phase := .none } ∧ (giveUpTake .standby s).ri.takeSlot = none
    ∧ (giveUpTake .standby s).ri.statusSlot = true := by
  obtain ⟨hou, -, hhbu, hstatus⟩ := changeRole_spec .standby (stopHandover (withdrawTake s))
  have hri : (giveUpTake .standby s).ri = _ :=
    changeRole_ri (r := .standby) (s := stopHandover (withdrawTake s)) (by simp [hrole])
  exact ⟨hou, hhbu, by rw [hri]; rfl, hstatus⟩

/-- The decision of a TAKING station that may transmit (R120, R130). -/
theorem handoverDecision_taking {s : State} (hrole : s.ou.role = .taking) (hs : s.silence = false)
    (hc : s.ri.clashHold = none) :
    ((∃ p ∈ s.ou.peers, rivalOwning s p) → handoverDecision s = giveUpTake .standby s)
    ∧ ((∀ p ∈ s.ou.peers, ¬rivalOwning s p) →
      handoverDecision s = enterOwner (lastHeard s.ou.lastPayloadSender s.ou.peers) s) := by
  refine ⟨fun h => ?_, fun h => ?_⟩
  · rw [handoverDecision, if_pos hrole, if_pos (rivalOwner_isSome.mpr h)]
  · have hnone : ¬(rivalOwner s).isSome = true := fun hsome => by
      obtain ⟨p, hp, howning⟩ := rivalOwner_isSome.mp hsome
      exact h p hp howning
    rw [handoverDecision, if_pos hrole, if_neg hnone, if_pos (by simp [mayTransmit, hs, hc]), lastOwnerSignature_eq]

/-! ## Suspension holds (R85, R87) -/

theorem endSuspension_eq (i : Nat) (table : List ServiceEntry) :
    endSuspension i table = table.modify i fun e => { e with suspension := .active } := by
  induction table generalizing i with
  | nil => cases i <;> rfl
  | cons e table ih =>
    cases i with
    | zero => rfl
    | succ i => simp [endSuspension, ih]

theorem endSuspension_getElem? (i j : Nat) (table : List ServiceEntry) : (endSuspension i table)[j]? =
    if i = j then table[j]?.map fun e => { e with suspension := .active } else table[j]? := by
  rw [endSuspension_eq, List.getElem?_modify]
  split <;> simp

/-- The clash condition stands exactly while some entry is SUSPENDED (R87). -/
theorem clashCondition_eq_false {s : State} : clashCondition s = false ↔ ∀ e ∈ s.services, e.suspension = .active := by
  have hactive (e : ServiceEntry) : isSuspended e = false ↔ e.suspension = .active := by
    unfold isSuspended
    split <;> simp [*]
  simp [clashCondition, hactive]

theorem exec_suspensionHoldEnd (i : Nat) {s : State} (hr : running s) :
    exec (.suspensionHoldEnd i) s = .next { s with services := endSuspension i s.services } :=
  whenRunning_running (f := fun s => { s with services := endSuspension i s.services }) hr rfl

/-- With no other entry SUSPENDED, the end of one hold releases the clash condition (R85, R87). -/
theorem endSuspension_releases {i : Nat} {s : State}
    (h : ∀ j e, j ≠ i → s.services[j]? = some e → e.suspension = .active) :
    clashCondition { s with services := endSuspension i s.services } = false := by
  refine clashCondition_eq_false.mpr fun e he => ?_
  obtain ⟨j, hj⟩ := List.mem_iff_getElem?.mp he
  rw [endSuspension_getElem?] at hj
  split at hj
  case isTrue =>
    obtain ⟨e', -, rfl⟩ := Option.map_eq_some_iff.mp hj
    rfl
  case isFalse hne => exact h j e (Ne.symm hne) hj

/-! ## Address clash holds (R91, R111, R192) -/

theorem exec_addressClashHoldEnd {n : Nat} {s : State} (hr : running s) (hn : s.ri.clashHold = some n) :
    exec .addressClashHoldEnd s = .next (endClashHold s) := by
  have heffect : (if s.ri.clashHold.isSome then endClashHold s else s) = endClashHold s := if_pos (by rw [hn]; rfl)
  rw [← heffect]
  exact whenRunning_running (f := fun s => if s.ri.clashHold.isSome then endClashHold s else s) hr
    (by rw [heffect]; simp [endClashHold])

/-- The station with its address clash hold ended and its base pattern chosen again (R111, R189). -/
def holdEnded (s : State) : State := refreshLamp { s with ri := { s.ri with clashHold := none } }

theorem endClashHold_eq (s : State) : endClashHold s = attempt (holdEnded s) := rfl

/-! ## Handover flashes (R191) -/

theorem exec_handoverFlashEnd {s : State} (hr : running s) :
    exec .handoverFlashEnd s = .next { s with iu := { s.iu with flash := none } } :=
  whenRunning_running (f := fun s => { s with iu := { s.iu with flash := none } }) hr rfl

/-! ## O36 -/

/-- Settles O36: each timer's end does what its own rule says. -/
theorem timersAndHoldsEnd : Obligations.TimersAndHoldsEnd := by
  refine ⟨fun n s hr hrole hn hs hc => ⟨_, exec_handoverTimerExpiry hr hn, ?handover⟩,
    fun i s hr => ⟨_, exec_suspensionHoldEnd i hr, ?suspension⟩,
    fun n s hr hn => ⟨_, exec_addressClashHoldEnd hr hn, ?clash⟩,
    fun s hr => ⟨exec_handoverFlashEnd hr, fun n => ?flash⟩⟩
  case handover =>
    obtain ⟨hends, howns⟩ := handoverDecision_taking (s := stopHandover s) hrole hs hc
    rw [attempt_statusSlot]
    obtain ⟨htake, -, -⟩ := attempt_holds (handoverDecision (stopHandover s))
    rw [htake]
    simp only [attempt_frame]
    by_cases hrival : ∃ p ∈ s.ou.peers, rivalOwning s p
    · obtain ⟨hou, hhbu, htake, hstatus⟩ := giveUpTake_standby (s := stopHandover s) hrole
      rw [hends hrival, hou, hhbu]
      exact ⟨rfl, htake, hstatus, by simp, by simp, rfl, fun _ => ⟨rfl, rfl, rfl⟩,
        fun hnone => by obtain ⟨p, hp, howning⟩ := hrival; exact absurd howning (hnone p hp)⟩
    · have hnone : ∀ p ∈ s.ou.peers, ¬rivalOwning s p := fun p hp howning => hrival ⟨p, hp, howning⟩
      obtain ⟨hou, hstatus⟩ := enterOwner_spec (lastHeard s.ou.lastPayloadSender s.ou.peers) (stopHandover s)
      have howner : handoverDecision (stopHandover s)
          = enterOwner (lastHeard s.ou.lastPayloadSender s.ou.peers) (stopHandover s) := howns hnone
      rw [howner, hou]
      exact ⟨rfl, enterOwner_takeSlot _ _, hstatus, by simp, by simp, rfl, fun h => absurd h hrival,
        fun _ => ⟨rfl, enterOwner_hbu _ _, enterOwner_pattern _ _⟩⟩
  case suspension =>
    refine ⟨rfl, by simp [endSuspension_eq], fun e he => ?_, fun j hj => ?_, endSuspension_releases⟩
    · rw [endSuspension_getElem?, if_pos rfl, he]
      rfl
    · rw [endSuspension_getElem?, if_neg hj.symm]
  case clash =>
    obtain ⟨-, hhold, hflag⟩ := attempt_holds (holdEnded s)
    have hri : (holdEnded s).ri = { s.ri with clashHold := none } := by simp [holdEnded]
    rw [endClashHold_eq]
    refine ⟨by rw [hhold, hri], by rw [hflag, hri], ?_, fun hfault hclash => ?_, fun hs hidle htx hy ht hstatus => ?_⟩
    · rw [attempt_eq, holdEnded, refreshLamp_eq]
    · have hservices : clashCondition (attempt (holdEnded s)) = false := by
        simpa [clashCondition, holdEnded] using hclash
      have hloader : (holdEnded s).loader = s.loader := by simp [holdEnded]
      simp [faultAsserted, hservices, hhold, hri, hloader, hfault]
    · have hallowed : allowedFrame (holdEnded s) = some .status :=
        allowedFrame_status (by simpa [holdEnded] using hs) (by rw [hri]) (by rw [hri]; exact hy) (by rw [hri]; exact ht)
          (by rw [hri]; exact hstatus)
      rw [attempt_starts (by rw [hri]; exact hidle) (by rw [hri]; exact htx) hallowed, hri]
      exact ⟨rfl, rfl, hstatus⟩
  case flash => simp [lampHigh]

end Sys2Proof.Machine

/-! # Proofs: PAYLOAD frames heard (R83, R84, R87, R109, R119, R141, R143 to R145) -/

namespace Sys2Proof.Machine

/-! ## A good frame of another station (R107 to R109) -/

theorem receive_dispatches {good : Bool} {a : Address} {f : State → State} {s : State} (hgood : good = true)
    (ha : a ≠ s.loader.address) (hc : s.loader.state = .complete) : receive good a f s = f (setView .busy s) := by
  have hcomplete : (setView .busy s).loader.state = .complete := hc
  have haddress : a ≠ (setView .busy s).loader.address := ha
  rw [receive, if_pos hgood, if_neg haddress, if_pos hcomplete]

theorem exec_payloadReceived {h : PayloadHeader} {s : State} (hr : running s) (hc : s.loader.state = .complete)
    (hwf : h.wf = true) (ha : h.sender ≠ s.loader.address) :
    exec (.payloadReceived h) s = .next (dispatchPayload h (setView .busy s)) := by
  have hmoves := moves_receive (bs := .gau :: .services :: roleBlocks) (by decide) h.wf h.sender (f := dispatchPayload h)
    (fun s => (moves_dispatchPayload h s).mono (by decide)) s
  rw [← receive_dispatches (f := dispatchPayload h) hwf ha hc]
  exact whenRunning_moves hr (by decide) hmoves

/-! ## The stores (R141, R143 to R145) -/

/-- The hold-back stores after a PAYLOAD of the own group (R143). -/
theorem dispatchPayload_own {h : PayloadHeader} {s : State} (hg : h.group = s.cfg.group) :
    dispatchPayload h s = { s with
      hbu := if (s.ou.role = .standby ∨ s.ou.role = .taking) ∧ h.errored = false
        then matchPayload h.signature s.hbu else s.hbu
      ou := { s.ou with
        lastPayloadSender := some h.sender
        peers := s.ou.peers.map fun p =>
          if p.address = h.sender then { p with lastSignature := some h.signature } else p } } := by
  rw [dispatchPayload, if_pos hg, holdBackHears]
  split <;> rfl

theorem ringMatch_eq_false {g : Signature} {e : RingEntry} :
    ringMatch g e = false ↔ e.signature ≠ g ∨ e.errored = true := by
  cases he : e.errored <;> simp [ringMatch, he]

/-- The oldest clean match leaves the ring with everything older (R144). -/
theorem matchPayload_found {g : Signature} {h : HoldBack} {old rest : List RingEntry} {e : RingEntry}
    (hring : h.ring = old ++ e :: rest) (hg : e.signature = g) (hclean : e.errored = false)
    (hold : ∀ x ∈ old, x.signature ≠ g ∨ x.errored = true) :
    matchPayload g h = { h with ring := rest, lastReleased := some g } := by
  have hmatch : dropThrough (ringMatch g) h.ring = some rest :=
    dropThrough_eq_some.mpr
      ⟨old, e, hring, by simp [ringMatch, hg, hclean], fun x hx => ringMatch_eq_false.mpr (hold x hx)⟩
  rw [matchPayload, if_neg (by simp [hring]), hmatch]

/-- What matches no ring entry is left aside (R144). -/
theorem matchPayload_unmatched {g : Signature} {h : HoldBack} (hring : h.ring ≠ [])
    (hnone : ∀ e ∈ h.ring, e.signature ≠ g ∨ e.errored = true) : matchPayload g h = h := by
  have hmatch : dropThrough (ringMatch g) h.ring = none :=
    dropThrough_eq_none.mpr fun e he => ringMatch_eq_false.mpr (hnone e he)
  rw [matchPayload, if_neg hring, hmatch]

/-- While the ring is empty the signature joins the lead list (R145). -/
theorem matchPayload_leads {g : Signature} {h : HoldBack} (hring : h.ring = []) :
    matchPayload g h = { h with lead := appendLead g h.lead, lastReleased := none } := if_pos hring

/-! ## Clashes with another group (R83, R84, R87) -/

theorem inOutputSet_iff {e : ServiceEntry} {out : Nat} :
    inOutputSet e out = true ↔ ∃ j < e.count, outputIdentifier e (e.first + j) = out := by
  simp [inOutputSet]

/-- The frame clashes with the entry: its output set holds the identifier, and it is in use or already suspended (R84). -/
def entryClashes (out : Nat) (e : ServiceEntry) : Prop :=
  (∃ j < e.count, outputIdentifier e (e.first + j) = out)
    ∧ (e.suspension ≠ .active ∨ e.thisPeriod = true ∨ e.lastPeriod = true)

theorem clashEntry_clashes {out : Nat} {e : ServiceEntry} (h : entryClashes out e) :
    clashEntry out e = { e with suspension := .suspended 2000 } := by
  obtain ⟨hout, huse⟩ := h
  rw [clashEntry, if_pos (inOutputSet_iff.mpr hout)]
  split
  case h_1 => rfl
  case h_2 hactive => exact if_pos (by simpa [inUse, hactive] using huse)

theorem clashEntry_other {out : Nat} {e : ServiceEntry} (h : ¬entryClashes out e) : clashEntry out e = e := by
  unfold clashEntry
  split
  case isFalse => rfl
  case isTrue hout =>
    have hfree : ¬(e.suspension ≠ .active ∨ e.thisPeriod = true ∨ e.lastPeriod = true) :=
      fun huse => h ⟨inOutputSet_iff.mp hout, huse⟩
    split
    case h_1 hold hsuspended => exact absurd (.inl (by rw [hsuspended]; exact nofun)) hfree
    case h_2 hactive => exact if_neg fun huse => hfree (.inr (by simpa [inUse] using huse))

theorem dispatchPayload_other {h : PayloadHeader} {s : State} (hg : h.group ≠ s.cfg.group) :
    dispatchPayload h s = { s with services := clashCheck s.cfg.group h.group h.outId s.services } := if_neg hg

/-! ## O48 -/

/-- Settles O48: the own group's PAYLOAD goes to the stores and the view, another group's to the service table. -/
theorem payloadHeardByGroup : Obligations.PayloadHeardByGroup := by
  refine ⟨fun h s hr hc hwf ha hg => ⟨_, exec_payloadReceived hr hc hwf ha, ?own⟩,
    fun h s hr hc hwf ha hg => ⟨_, exec_payloadReceived hr hc hwf ha, ?other⟩⟩
  case own =>
    rw [dispatchPayload_own (s := setView .busy s) hg]
    refine ⟨rfl, fun hn => if_neg hn, fun old e rest hm hring hsig hclean hold => ?_, fun hm hring hnone => ?_,
      fun hm hring hlen => ?_, fun g rest hm hring hlead hlen => ?_⟩
    all_goals refine (if_pos hm).trans ?_
    · exact matchPayload_found hring hsig hclean hold
    · exact matchPayload_unmatched hring hnone
    · refine (matchPayload_leads hring).trans ?_
      rw [appendLead, if_neg (Nat.not_le.mpr hlen)]
    · refine (matchPayload_leads hring).trans ?_
      rw [appendLead, hlead, if_pos (by simp [hlen])]
      rfl
  case other =>
    rw [dispatchPayload_other (s := setView .busy s) hg]
    refine ⟨rfl, fun hhigher => ?_, fun hlower i e he => ?_⟩
    · exact if_neg (Nat.not_lt.mpr (Nat.le_of_lt hhigher))
    · have htable : (clashCheck s.cfg.group h.group h.outId s.services)[i]? = some (clashEntry h.outId e) := by
        rw [clashCheck, if_pos hlower, List.getElem?_map, he]
        rfl
      exact ⟨fun hclash => htable.trans (congrArg some (clashEntry_clashes hclash)),
        fun hfree => htable.trans (congrArg some (clashEntry_other hfree))⟩

end Sys2Proof.Machine

/-! # Proofs: turns of the acquisition side, and what they leave of the bus side (R1, R121, R131, R132) -/

namespace Sys2Proof.Machine

/-! ## Turns of the acquisition side -/

/-- The blocks on the station's bus side are the same, and the levels of the two pins. -/
def sameBusSide (s t : State) : Prop :=
  t.silence = s.silence ∧ t.resetLow = s.resetLow ∧ t.loader = s.loader ∧ t.ri = s.ri ∧ t.ou = s.ou ∧ t.hbu = s.hbu
    ∧ t.sau = s.sau

/-- The elementary turns of a change on the reception side: what leaves the bus side as it stands, and the role's move at a
change of the acquisition state (R121, R131, R132). -/
inductive Turn (s : State) : State → Prop
  | aside {t : State} (h : sameBusSide s t) : Turn s t
  | role (new : AcqState) : Turn s (roleAtAcqChange new s)

/-- A run of elementary turns. -/
def Turns : State → State → Prop := Relation.ReflTransGen Turn

theorem Turns.refl {s : State} : Turns s s := Relation.ReflTransGen.refl

theorem Turns.trans {s t u : State} (h : Turns s t) (h' : Turns t u) : Turns s u := Relation.ReflTransGen.trans h h'

theorem sameBusSide_rfl {s : State} : sameBusSide s s := ⟨rfl, rfl, rfl, rfl, rfl, rfl, rfl⟩

theorem Turns.aside {s t : State} (h : sameBusSide s t) : Turns s t := Relation.ReflTransGen.single (.aside h)

/-- A run that sets out from a state with the bus side as it stands. -/
theorem Turns.after {s u t : State} (h : Turns u t) (hu : sameBusSide s u) : Turns s t := (Turns.aside hu).trans h

theorem turns_refreshLamp (s : State) : Turns s (refreshLamp s) := .aside (by simp [sameBusSide])

/-- What leaves the bus side alone and then changes the acquisition state (R1). -/
theorem turns_changeAcq (new : AcqState) {s u : State} (h : sameBusSide s u) : Turns s (changeAcq new u) := by
  refine (Turns.aside h).trans ?_
  unfold changeAcq
  dsimp only
  split
  · exact turns_refreshLamp u
  · have set : Turns u { u with
        gau := { u.gau with acq := new }, pru := if u.gau.acq = .track then leaveTrack u.pru else u.pru } :=
      .aside ⟨rfl, rfl, rfl, rfl, rfl, rfl, rfl⟩
    exact set.trans ((Relation.ReflTransGen.single (.role new)).trans (turns_refreshLamp _))

theorem turns_enterGain (s : State) : Turns s (enterGain s) := turns_changeAcq .gain sameBusSide_rfl

theorem turns_enterSymbol (s : State) : Turns s (enterSymbol s) := turns_changeAcq .symbol sameBusSide_rfl

theorem turns_enterFrameSearch (t : TrialScore) (s : State) : Turns s (enterFrameSearch t s) :=
  turns_changeAcq .frame sameBusSide_rfl

theorem turns_enterFrameConfirm (g : Signalling) (s : State) : Turns s (enterFrameConfirm g s) :=
  turns_changeAcq .frame sameBusSide_rfl

theorem turns_enterTrack (g : Option Signalling) (s : State) : Turns s (enterTrack g s) :=
  turns_changeAcq .track sameBusSide_rfl

theorem turns_enterHold (s : State) : Turns s (enterHold s) := turns_changeAcq .hold sameBusSide_rfl

theorem turns_reportCause (c : Cause) (s : State) : Turns s (reportCause c s) := by
  have record : Turns s (recordCause c s) := .aside sameBusSide_rfl
  unfold reportCause
  dsimp only
  split
  · exact record.trans (turns_enterHold _)
  · exact record

/-! ### Gain measurements and trials (R2 to R9) -/

theorem turns_gainMeasured (e : Option Int) (s : State) : Turns s (gainMeasured e s) := by
  have count : Turns s (countMeasurement e s) := .aside sameBusSide_rfl
  rw [gainMeasured_eq]
  split
  · exact (turns_enterSymbol _).after sameBusSide_rfl
  · split
    · exact (turns_enterGain _).after sameBusSide_rfl
    · exact count

theorem turns_clipMeasured (step : Int) (s : State) : Turns s (clipMeasured step s) := by
  unfold clipMeasured
  split
  · split
    · exact (turns_reportCause _ _).after sameBusSide_rfl
    · exact .aside sameBusSide_rfl
  · exact .aside sameBusSide_rfl

theorem turns_measureIfDue (s : State) : Turns s (measureIfDue s) := by
  have void : Turns s (voidMeasured s) := .aside sameBusSide_rfl
  have full : Turns s (fullyMeasured s) := by
    obtain ⟨_, -, h⟩ := fullyMeasured_eq s
    rw [h]
    exact .aside sameBusSide_rfl
  unfold measureIfDue
  split
  · cases hv : blockVoid s.gau with
    | true =>
      rw [takeMeasurement_void hv]
      split
      · exact void.trans (turns_gainMeasured _ _)
      · exact void
    | false =>
      rw [takeMeasurement_full hv]
      split
      · exact full.trans (turns_gainMeasured _ _)
      · split
        · exact full.trans (turns_clipMeasured _ _)
        · exact full
  · exact .refl

theorem turns_endTrialIfDue (s : State) : Turns s (endTrialIfDue s) := by
  have count : Turns s { s with freeCount := s.freeCount + 1 } := .aside sameBusSide_rfl
  unfold endTrialIfDue takeTrialEnd failTrial
  dsimp only
  split
  · split
    · exact count.trans (turns_enterFrameSearch _ _)
    · split
      · exact (turns_enterGain _).after sameBusSide_rfl
      · exact .aside sameBusSide_rfl
  · exact .refl

/-! ### Frame passes, the hold limit and the signalling decoder's reports (R10 to R16) -/

theorem turns_countPass {s u : State} (h : sameBusSide s u) : Turns s (countPass u) := by
  refine (Turns.aside h).trans ?_
  unfold countPass
  dsimp only
  split
  · exact (turns_enterSymbol _).after sameBusSide_rfl
  · exact .aside sameBusSide_rfl

theorem turns_takePass (s : State) : Turns s (takePass s) := turns_countPass sameBusSide_rfl

theorem turns_takeHoldLimit (s : State) : Turns s (takeHoldLimit s) :=
  (turns_enterSymbol _).after sameBusSide_rfl

theorem turns_settleFrameCounts (s : State) : Turns s (settleFrameCounts s) := by
  unfold settleFrameCounts
  split
  · exact turns_takePass s
  · split
    · exact turns_takeHoldLimit s
    · exact .refl

theorem turns_takeSyncFound (s : State) : Turns s (takeSyncFound s) := by
  have pass : Turns s (settlePass s) := by
    unfold settlePass
    split
    · exact turns_takePass s
    · exact .refl
  have confirm (u : State) : Turns u (confirmSync u) := by
    unfold confirmSync
    split
    · exact .aside sameBusSide_rfl
    · exact .refl
  exact pass.trans (confirm _)

theorem turns_signallingChanged (g : Signalling) (s : State) : Turns s (signallingChanged g s) :=
  (turns_enterFrameConfirm g _).after sameBusSide_rfl

theorem turns_checkInConfirm (r : FrameReport) (s : State) : Turns s (checkInConfirm r s) := by
  unfold checkInConfirm
  split
  · split
    · exact turns_countPass sameBusSide_rfl
    · split
      · exact turns_enterTrack _ s
      · exact turns_countPass sameBusSide_rfl
  · exact turns_countPass sameBusSide_rfl

theorem turns_checkInTrack (r : FrameReport) (s : State) : Turns s (checkInTrack r s) := by
  unfold checkInTrack
  split
  · split
    · exact .aside sameBusSide_rfl
    · split
      · exact .aside sameBusSide_rfl
      · exact turns_signallingChanged _ s
  · split
    · exact (turns_enterHold _).after sameBusSide_rfl
    · exact .aside sameBusSide_rfl

theorem turns_checkInHold (r : FrameReport) (s : State) : Turns s (checkInHold r s) := by
  unfold checkInHold
  split
  · split
    · exact turns_enterTrack _ s
    · split
      · exact turns_enterTrack _ s
      · exact turns_signallingChanged _ s
  · exact .refl

theorem turns_takeFrameCheck (r : FrameReport) (s : State) : Turns s (takeFrameCheck r s) := by
  unfold takeFrameCheck
  split
  case h_1 =>
    split
    · exact turns_checkInConfirm r s
    · exact .refl
  case h_2 => exact turns_checkInTrack r s
  case h_3 => exact turns_checkInHold r s
  all_goals exact .refl

/-! ### Symbol boundaries and samples (R21, R22, R38, R39, R44, R48 to R50) -/

theorem turns_blankerBoundary (s : State) : Turns s (blankerBoundary s) := by
  unfold blankerBoundary
  split
  · exact .refl
  · split
    · exact .aside sameBusSide_rfl
    · have closed (e : Bool) : Turns s (symbolClosed e s) := .aside sameBusSide_rfl
      rw [closeSymbol_eq]
      split
      · exact (closed _).trans (turns_reportCause _ _)
      · exact closed _

theorem turns_windowBoundary (b : Bool) (s : State) : Turns s (windowBoundary b s) := by
  rcases windowBoundary_cases b s with h | h | ⟨-, h⟩
  all_goals rw [h]
  · exact .refl
  · exact .aside sameBusSide_rfl
  · exact (turns_reportCause _ _).after sameBusSide_rfl

theorem turns_takeBoundary (b : Bool) (s : State) : Turns s (takeBoundary b s) := by
  have count : Turns s (counted s) := .aside sameBusSide_rfl
  cases b with
  | true => exact count.trans ((turns_windowBoundary _ _).trans (turns_blankerBoundary _))
  | false => exact count.trans ((turns_blankerBoundary _).trans (turns_windowBoundary _ _))

theorem turns_boundaryEvent (b : Bool) (s : State) : Turns s (boundaryEvent b s) := by
  unfold boundaryEvent
  dsimp only
  split
  · exact (turns_settleFrameCounts s).trans (turns_takeBoundary b _)
  · exact turns_settleFrameCounts s

theorem turns_settleSamples (s : State) : Turns s (settleSamples s) := by
  have blanker : Turns s { s with ib := settleBlanker s.cfg.runEnd s.ib } := .aside sameBusSide_rfl
  exact blanker.trans <| (turns_measureIfDue _).trans <| (turns_endTrialIfDue _).trans <|
    (turns_boundaryEvent true _).trans (turns_settleFrameCounts _)

theorem turns_takeSample (d : Sample) (s : State) : Turns s (takeSample d s) := by
  unfold takeSample
  dsimp only
  split <;> exact .aside sameBusSide_rfl

end Sys2Proof.Machine

/-! # Proofs: what a run keeps of the line, the queues and the stores (R91, R96, R99, R112, R139 to R149) -/

namespace Sys2Proof.Machine

/-! ## What a run keeps -/

/-- The station drives the line only when free to, and sends a PAYLOAD only as OWNER (R91, R99, R112). -/
def lineHeld (s : State) : Prop :=
  (s.ri.tx ≠ .silent → mayTransmit s = true) ∧ (sendsPayload s.ri.tx = true → s.ou.role = .owner)

theorem lineSound_iff {s : State} : lineSound s ↔ (s.resetLow = true → s.ri.tx = .silent) ∧ lineHeld s := Iff.rfl

theorem lineHeld_silent {s : State} (h : s.ri.tx = .silent) : lineHeld s := by simp [lineHeld, h, sendsPayload]

theorem queuesSound_iff {s : State} : queuesSound s ↔ ∀ c, (queueOf c s.ri).length ≤ queueCapacity c :=
  ⟨fun ⟨hp, hst, hsp⟩ c => by cases c <;> assumption, fun h => ⟨h .premium, h .standard, h .spare⟩⟩

/-- What a run from one state to another keeps of the riser interface and the hold-back stores: the queues' capacities (R96),
the stores' (R139 to R149), and the discipline of the line. -/
structure Keeps (s t : State) : Prop where
  low : t.resetLow = s.resetLow
  queues : queuesSound s → queuesSound t
  stores : storesSound s.hbu → storesSound t.hbu
  line : lineHeld s → lineHeld t

theorem Keeps.refl (s : State) : Keeps s s := ⟨rfl, id, id, id⟩

theorem Keeps.trans {s t u : State} (h : Keeps s t) (h' : Keeps t u) : Keeps s u :=
  ⟨h'.low.trans h.low, h'.queues ∘ h.queues, h'.stores ∘ h.stores, h'.line ∘ h.line⟩

/-- What the discipline of the line and the queues read is the same in two states. -/
structure SameLine (s t : State) : Prop where
  low : t.resetLow = s.resetLow
  silence : t.silence = s.silence
  role : t.ou.role = s.ou.role
  hold : t.ri.clashHold = s.ri.clashHold
  tx : t.ri.tx = s.ri.tx
  queue : ∀ c, queueOf c t.ri = queueOf c s.ri

theorem SameLine.refl (s : State) : SameLine s s := ⟨rfl, rfl, rfl, rfl, rfl, fun _ => rfl⟩

theorem SameLine.trans {s t u : State} (h : SameLine s t) (h' : SameLine t u) : SameLine s u :=
  ⟨h'.low.trans h.low, h'.silence.trans h.silence, h'.role.trans h.role, h'.hold.trans h.hold, h'.tx.trans h.tx,
    fun c => (h'.queue c).trans (h.queue c)⟩

/-- The riser interface is the same. -/
theorem SameLine.of_ri {s t : State} (h : t.resetLow = s.resetLow ∧ t.silence = s.silence ∧ t.ou.role = s.ou.role
    ∧ t.ri = s.ri) : SameLine s t := by
  obtain ⟨hlow, hsilence, hrole, hri⟩ := h
  exact ⟨hlow, hsilence, hrole, by rw [hri], by rw [hri], fun c => by rw [hri]⟩

theorem mayTransmit_congr {s t : State} (hs : t.silence = s.silence) (hc : t.ri.clashHold = s.ri.clashHold) :
    mayTransmit t = mayTransmit s := by simp [mayTransmit, hs, hc]

theorem SameLine.keeps {s t : State} (h : SameLine s t) (hst : storesSound s.hbu → storesSound t.hbu) : Keeps s t where
  low := h.low
  queues hq := queuesSound_iff.mpr fun c => by rw [h.queue c]; exact queuesSound_iff.mp hq c
  stores := hst
  line hl := by
    simp only [lineHeld, h.tx, h.role, mayTransmit_congr h.silence h.hold]
    exact hl

theorem Keeps.same {s t : State} (h : SameLine s t) (hhbu : t.hbu = s.hbu) : Keeps s t := h.keeps (by rw [hhbu]; exact id)

/-- Nothing of the riser interface, the role and the stores changes. -/
theorem Keeps.aside {s t : State} (h : t.resetLow = s.resetLow ∧ t.silence = s.silence ∧ t.ou.role = s.ou.role ∧ t.ri = s.ri
    ∧ t.hbu = s.hbu) : Keeps s t := by
  obtain ⟨hlow, hsilence, hrole, hri, hhbu⟩ := h
  exact .same (.of_ri ⟨hlow, hsilence, hrole, hri⟩) hhbu

/-- Nothing is driven, and no queue is longer. -/
theorem Keeps.silent {s t : State} (htx : t.ri.tx = .silent) (hlow : t.resetLow = s.resetLow) (hhbu : t.hbu = s.hbu)
    (hq : ∀ c, (queueOf c t.ri).length ≤ (queueOf c s.ri).length) : Keeps s t where
  low := hlow
  queues h := queuesSound_iff.mpr fun c => (hq c).trans (queuesSound_iff.mp h c)
  stores := by rw [hhbu]; exact id
  line _ := lineHeld_silent htx

/-! ## The riser interface, operation by operation -/

/-- What setting a queue leaves of the riser interface. -/
theorem withQueue_riser (c : ServiceClass) (q : List QueueEntry) (ri : Riser) : (withQueue c q ri).tx = ri.tx
    ∧ (withQueue c q ri).busView = ri.busView ∧ (withQueue c q ri).statusSlot = ri.statusSlot
    ∧ (withQueue c q ri).yieldSlot = ri.yieldSlot ∧ (withQueue c q ri).takeSlot = ri.takeSlot
    ∧ (withQueue c q ri).lastSent = ri.lastSent ∧ (withQueue c q ri).clashHold = ri.clashHold
    ∧ (withQueue c q ri).clashFlag = ri.clashFlag ∧ (withQueue c q ri).clashCarried = ri.clashCarried := by
  cases c <;> exact ⟨rfl, rfl, rfl, rfl, rfl, rfl, rfl, rfl, rfl⟩

/-- What emptying the queues leaves of the riser interface (R96). -/
theorem emptyQueues_riser (s : State) : (emptyQueues s).ri.tx = s.ri.tx
    ∧ (emptyQueues s).ri.busView = s.ri.busView ∧ (emptyQueues s).ri.statusSlot = s.ri.statusSlot
    ∧ (emptyQueues s).ri.yieldSlot = s.ri.yieldSlot ∧ (emptyQueues s).ri.takeSlot = s.ri.takeSlot
    ∧ (emptyQueues s).ri.lastSent = s.ri.lastSent ∧ (emptyQueues s).ri.clashHold = s.ri.clashHold := by
  simp [emptyQueues, emptyQueue, withQueue_riser]

theorem sameLine_countDrop (c : ServiceClass) (s : State) : SameLine s (countDrop c s) := by
  refine ⟨?_, ?_, ?_, ?_, ?_, fun d => ?_⟩ <;> simp [countDrop]

theorem sameLine_requestStatus (s : State) : SameLine s (requestStatus s) :=
  ⟨rfl, rfl, rfl, rfl, rfl, fun c => by cases c <;> rfl⟩

theorem sameLine_requestYield (a : Option Address) (r : YieldReason) (s : State) : SameLine s (requestYield a r s) :=
  ⟨rfl, rfl, rfl, rfl, rfl, fun c => by cases c <;> rfl⟩

theorem sameLine_requestTake (m : Nat) (g : Option Signature) (s : State) : SameLine s (requestTake m g s) :=
  ⟨rfl, rfl, rfl, rfl, rfl, fun c => by cases c <;> rfl⟩

theorem sameLine_setView (v : BusView) (s : State) : SameLine s (setView v s) :=
  ⟨rfl, rfl, rfl, rfl, rfl, fun c => by cases c <;> rfl⟩

theorem sameLine_lineIdle (s : State) : SameLine s (lineIdle s) :=
  ⟨rfl, rfl, rfl, rfl, rfl, fun c => by cases c <;> rfl⟩

theorem sameLine_countReceiveError (s : State) : SameLine s (countReceiveError s) :=
  ⟨rfl, rfl, rfl, rfl, rfl, fun c => by cases c <;> rfl⟩

theorem keeps_refreshLamp (s : State) : Keeps s (refreshLamp s) := .aside (by simp)

theorem keeps_requestStatus (s : State) : Keeps s (requestStatus s) := .same (sameLine_requestStatus s) rfl

theorem keeps_stopHandover (s : State) : Keeps s (stopHandover s) := .aside (by simp)

theorem keeps_startHandover (s : State) : Keeps s (startHandover s) := .aside (by simp)

theorem keeps_clearChallenge (s : State) : Keeps s (clearChallenge s) := .aside (by simp)

theorem keeps_mapPeers (f : List Peer → List Peer) (s : State) : Keeps s (mapPeers f s) := .aside (by simp)

theorem keeps_stopDriving (s : State) : Keeps s (stopDriving s) :=
  .silent rfl rfl rfl fun c => by rw [(stopDriving_line c s).1]

theorem keeps_withdrawTake (s : State) : Keeps s (withdrawTake s) := by
  have hq (c : ServiceClass) : queueOf c (withdrawTake s).ri = queueOf c s.ri := by cases c <;> rfl
  by_cases h : s.ri.tx = .arbitrating .take
  · exact .silent (if_pos h) rfl rfl fun c => by rw [hq]
  · exact .same ⟨rfl, rfl, rfl, rfl, if_neg h, hq⟩ rfl

/-- A cut-off before the role falls: nothing driven, slots and queues emptied (R110, R112). -/
def lineCut (s : State) : State := emptyQueues (emptySlots (endTransmission s))

theorem lineCut_tx (s : State) : (lineCut s).ri.tx = .silent := (silenced_line .premium s).1

theorem keeps_lineCut (s : State) : Keeps s (lineCut s) :=
  .silent (lineCut_tx s) (by simp [lineCut]) (by simp [lineCut]) (by simp [lineCut])

/-- What abandoning a PAYLOAD leaves of the riser interface (R99). -/
theorem abandonPayload_riser (s : State) : sendsPayload (abandonPayload s).ri.tx = false
    ∧ ((abandonPayload s).ri.tx = .silent ∨ (abandonPayload s).ri.tx = s.ri.tx)
    ∧ (abandonPayload s).ri.clashHold = s.ri.clashHold ∧ (abandonPayload s).ri.yieldSlot = s.ri.yieldSlot
    ∧ (abandonPayload s).ri.busView = s.ri.busView
    ∧ ∀ c, queueOf c (abandonPayload s).ri = queueOf c s.ri := by
  have stopped (u : State) (hu : u = s ∨ ∃ d, u = countDrop d s) : sendsPayload (stopDriving u).ri.tx = false
      ∧ ((stopDriving u).ri.tx = .silent ∨ (stopDriving u).ri.tx = s.ri.tx)
      ∧ (stopDriving u).ri.clashHold = s.ri.clashHold ∧ (stopDriving u).ri.yieldSlot = s.ri.yieldSlot
      ∧ (stopDriving u).ri.busView = s.ri.busView
      ∧ ∀ c, queueOf c (stopDriving u).ri = queueOf c s.ri := by
    refine ⟨rfl, .inl rfl, ?_, ?_, ?_, fun c => (stopDriving_line c u).1.trans ?_⟩
    all_goals rcases hu with rfl | ⟨d, rfl⟩ <;> simp [countDrop, stopDriving]
  unfold abandonPayload
  split
  case h_1 => exact stopped s (.inl rfl)
  case h_2 h _ _ => exact stopped _ (.inr ⟨h.cls, rfl⟩)
  all_goals
    rename_i htx
    exact ⟨by rw [htx]; rfl, .inr rfl, rfl, rfl, rfl, fun _ => rfl⟩

/-- What a departure from OWNER does to the riser interface (R96, R99). -/
theorem riserLeavesOwner_riser (r : Role) (s : State) : sendsPayload (riserLeavesOwner r s).ri.tx = false
    ∧ ((riserLeavesOwner r s).ri.tx = .silent ∨ (riserLeavesOwner r s).ri.tx = s.ri.tx)
    ∧ (riserLeavesOwner r s).ri.clashHold = s.ri.clashHold ∧ (riserLeavesOwner r s).ri.yieldSlot = s.ri.yieldSlot
    ∧ (riserLeavesOwner r s).ri.busView = s.ri.busView
    ∧ ∀ c, queueOf c (riserLeavesOwner r s).ri = if r = .yielding then [] else queueOf c s.ri := by
  obtain ⟨hpayload, htx, hhold, hyield, hview, hqueue⟩ := abandonPayload_riser s
  by_cases hr : r = .yielding
  · obtain ⟨etx, eview, -, eyield, -, -, ehold⟩ := emptyQueues_riser (abandonPayload s)
    simp only [riserLeavesOwner, hr, if_true, etx, eview, eyield, ehold, emptyQueues_queue]
    exact ⟨hpayload, htx, hhold, hyield, hview, fun _ => trivial⟩
  · simp only [riserLeavesOwner, hr, if_false]
    exact ⟨hpayload, htx, hhold, hyield, hview, hqueue⟩

theorem changeRole_owner_ri {r : Role} {s : State} (h : s.ou.role = .owner) :
    (changeRole r s).ri = { (riserLeavesOwner r (setRole r s)).ri with statusSlot := true } := by
  simp [changeRole, h, requestStatus]

theorem keeps_changeRole (r : Role) (s : State) : Keeps s (changeRole r s) := by
  obtain ⟨hou, -, hhbu, -⟩ := changeRole_spec r s
  have hstores : storesSound s.hbu → storesSound (changeRole r s).hbu := by
    have empty (h : HoldBack) (hr : h.ring = []) (hl : h.lead = []) : storesSound h := by simp [storesSound, hr, hl]
    rw [hhbu]
    cases r with
    | absent | yielding => exact fun _ => empty _ rfl rfl
    | standby | taking | owner => exact id
  have hmay : (changeRole r s).ri.clashHold = s.ri.clashHold → mayTransmit (changeRole r s) = mayTransmit s :=
    mayTransmit_congr (by simp)
  by_cases ho : s.ou.role = .owner
  · obtain ⟨hpayload, htx, hhold, -, -, hqueue⟩ := riserLeavesOwner_riser r (setRole r s)
    have hri := changeRole_owner_ri (r := r) ho
    refine ⟨by simp, fun hq => queuesSound_iff.mpr fun c => ?_, hstores, fun hl => ?_⟩
    · have hc : queueOf c (changeRole r s).ri = if r = .yielding then [] else queueOf c s.ri := by
        rw [hri]
        exact (show _ = queueOf c (riserLeavesOwner r (setRole r s)).ri by cases c <;> rfl).trans (hqueue c)
      rw [hc]
      split
      · exact Nat.zero_le _
      · exact queuesSound_iff.mp hq c
    · rcases htx with htx | htx
      · exact lineHeld_silent (by rw [hri]; exact htx)
      · refine ⟨fun hn => ?_, fun hp => ?_⟩
        · rw [hmay (by rw [hri]; exact hhold)]
          exact hl.1 (by rw [hri] at hn; exact fun h => hn (htx.trans h))
        · rw [hri] at hp
          exact absurd (hp.symm.trans hpayload) (by decide)
  · have hri := changeRole_ri (r := r) ho
    refine ⟨by simp, fun hq => queuesSound_iff.mpr fun c => ?_, hstores, fun hl => ⟨fun hn => ?_, fun hp => ?_⟩⟩
    · rw [hri]
      have := queuesSound_iff.mp hq c
      cases c <;> exact this
    · rw [hmay (by rw [hri])]
      exact hl.1 (by rw [hri] at hn; exact hn)
    · rw [hri] at hp
      exact absurd (hl.2 hp) ho

end Sys2Proof.Machine

/-! # Proofs: records, role changes and attempts keep the line, the queues and the stores -/

namespace Sys2Proof.Machine

/-! ## Admission and the drain (R140, R155 to R157, R170 to R173) -/

/-- A ring of at most 128 entries beside the lead list it may stand with. -/
theorem storesSound_ring {h : HoldBack} {ring : List RingEntry} (hs : storesSound h) (hlen : ring.length ≤ 128)
    (hone : ring = [] ∨ h.lead = []) : storesSound { h with ring := ring } :=
  ⟨hlen, hs.2.1, hone, hs.2.2.2⟩

/-- Entries left of a sound ring. -/
theorem storesSound_ringLeft {h : HoldBack} {ring : List RingEntry} (hs : storesSound h)
    (hlen : ring.length ≤ h.ring.length) : storesSound { h with ring := ring } := by
  obtain ⟨hring, -, hone, -⟩ := id hs
  refine storesSound_ring hs (hlen.trans hring) (hone.imp_left fun h0 => ?_)
  exact List.length_eq_zero_iff.mp (Nat.le_zero.mp (by simpa [h0] using hlen))

theorem storesSound_phase {h : HoldBack} {p : Phase} (hs : storesSound h) : storesSound { h with phase := p } := hs

/-- A lead list no longer than a sound one, the last released signature as it was or none. -/
theorem storesSound_leadLeft {h : HoldBack} {lead : List Signature} (hs : storesSound h)
    (hlen : lead.length ≤ h.lead.length) : storesSound { h with lead := lead } := by
  obtain ⟨hring, hlead, hone, hnone⟩ := hs
  have hnil (h0 : h.lead = []) : lead = [] :=
    List.length_eq_zero_iff.mp (Nat.le_zero.mp (by simpa [h0] using hlen))
  exact ⟨hring, hlen.trans hlead, hone.imp_right hnil, fun hne => hnone fun h0 => hne (hnil h0)⟩

/-- Only the stores change, and stay sound. -/
theorem Keeps.hbu {s : State} {h : HoldBack} (hs : storesSound s.hbu → storesSound h) : Keeps s { s with hbu := h } :=
  SameLine.keeps (t := { s with hbu := h }) (.of_ri ⟨rfl, rfl, rfl, rfl⟩) hs

theorem sameLine_countOffered (s : State) : SameLine s (countOffered s) := .of_ri ⟨rfl, rfl, rfl, rfl⟩

/-- A packet that joins its queue finds room there (R96, R173). -/
theorem keeps_admitEntry {e : QueueEntry} {s : State} (h : (queueOf e.cls s.ri).length < queueCapacity e.cls) :
    Keeps s (admitEntry e s) := by
  have hri : (admitEntry e s).ri = withQueue e.cls (queueOf e.cls s.ri ++ [e]) s.ri := rfl
  obtain ⟨htx, -, -, -, -, -, hhold, -⟩ := withQueue_riser e.cls (queueOf e.cls s.ri ++ [e]) s.ri
  refine ⟨rfl, fun hq => queuesSound_iff.mpr fun c => ?_, id, fun hl => ?_⟩
  · rw [hri]
    by_cases hc : c = e.cls
    · rw [hc, queueOf_withQueue_self, List.length_append, List.length_singleton]
      exact h
    · rw [queueOf_withQueue_ne hc]
      exact queuesSound_iff.mp hq c
  · have hmay : mayTransmit (admitEntry e s) = mayTransmit s := mayTransmit_congr rfl (by rw [hri, hhold])
    rw [lineHeld, hri, htx, hmay]
    exact hl

theorem keeps_countOffered (s : State) : Keeps s (countOffered s) := .same (sameLine_countOffered s) rfl

theorem keeps_countDrop (c : ServiceClass) (s : State) : Keeps s (countDrop c s) := .same (sameLine_countDrop c s) (by simp)

theorem admissionAnswer_room {c : ServiceClass} {s : State} (h : admissionAnswer c s = .admitted) :
    (queueOf c s.ri).length < queueCapacity c := by
  unfold admissionAnswer at h
  split at h
  · split at h
    · assumption
    · cases h
  · cases h

theorem keeps_offerRecord (e : QueueEntry) (s : State) : Keeps s (offerRecord e s) := by
  have dropped : Keeps s (countOffered (countDrop e.cls s)) := (keeps_countDrop _ s).trans (keeps_countOffered _)
  unfold offerRecord
  split
  · split
    case h_1 ha => exact keeps_admitEntry (admissionAnswer_room ha)
    case h_2 => exact dropped
    case h_3 => exact dropped
  · exact keeps_countDrop _ s

/-- Entries leave the ring. -/
theorem keeps_ringLeft {s : State} {ring : List RingEntry} (h : ring.length ≤ s.hbu.ring.length) :
    Keeps s { s with hbu := { s.hbu with ring := ring } } :=
  .hbu fun hs => storesSound_ringLeft hs h

theorem keeps_offerEntries (n : Nat) (s : State) : Keeps s (offerEntries n s) := by
  induction n generalizing s with
  | zero => exact .refl s
  | succ n ih =>
    unfold offerEntries
    split
    case h_1 => exact .refl s
    case h_2 e rest hring =>
      have leaves : Keeps s { s with hbu := { s.hbu with ring := rest } } := keeps_ringLeft (by simp [hring])
      split
      case h_1 ha => exact (leaves.trans (keeps_admitEntry (e := queueEntry e) (admissionAnswer_room ha))).trans (ih _)
      case h_2 => exact ((leaves.trans (keeps_countDrop _ _)).trans (keeps_countOffered _)).trans (ih _)
      case h_3 => exact .refl s

theorem keeps_phase (p : Phase) (s : State) : Keeps s { s with hbu := { s.hbu with phase := p } } :=
  .hbu storesSound_phase

theorem keeps_goLive (s : State) : Keeps s (goLive s) := (keeps_phase .live s).trans (keeps_refreshLamp _)

theorem keeps_drainOffer (s : State) : Keeps s (drainOffer s) := by
  unfold drainOffer
  dsimp only
  split
  · exact (keeps_offerEntries 2 s).trans (keeps_goLive _)
  · exact keeps_offerEntries 2 s

/-! ## Decoded records at the hold-back unit (R140, R146 to R148, R152 to R157) -/

theorem sameLine_countRemoved (l : List RingEntry) (s : State) : SameLine s (countRemoved l s) := by
  induction l generalizing s with
  | nil => exact .refl s
  | cons e l ih => exact (sameLine_countDrop e.cls s).trans (ih _)

theorem sameLine_expireRing (b : Nat) (s : State) : SameLine s (expireRing b s) := by
  have expire : SameLine s { s with hbu := { s.hbu with ring := ringAfterExpiry b s.hbu.ring } } := .of_ri ⟨rfl, rfl, rfl, rfl⟩
  unfold expireRing
  dsimp only
  split
  · exact expire.trans (sameLine_countRemoved _ _)
  · exact expire

theorem expireRing_hbu (b : Nat) (s : State) :
    (expireRing b s).hbu = { s.hbu with ring := ringAfterExpiry b s.hbu.ring } := by
  unfold expireRing
  dsimp only
  split <;> simp

theorem sameLine_placeInRing (r : RingEntry) (s : State) : SameLine s (placeInRing r s) := by
  unfold placeInRing
  dsimp only
  split
  · have place : SameLine s { s with hbu := { s.hbu with ring := s.hbu.ring.drop 1 ++ [r] } } := .of_ri ⟨rfl, rfl, rfl, rfl⟩
    split
    · exact place.trans (sameLine_countRemoved _ _)
    · exact place
  · exact .of_ri ⟨rfl, rfl, rfl, rfl⟩

theorem placeInRing_hbu (r : RingEntry) (s : State) :
    (placeInRing r s).hbu = { s.hbu with ring := (placeInRing r s).hbu.ring } := by
  unfold placeInRing
  dsimp only
  split
  · split <;> simp
  · rfl

theorem placeInRing_length (r : RingEntry) {s : State} (h : s.hbu.ring.length ≤ 128) :
    (placeInRing r s).hbu.ring.length ≤ 128 := by
  unfold placeInRing
  dsimp only
  split
  · split <;> simp <;> omega
  · simp
    omega

theorem keeps_expireRing (b : Nat) (s : State) : Keeps s (expireRing b s) :=
  (sameLine_expireRing b s).keeps fun hs => by
    rw [expireRing_hbu]
    exact storesSound_ringLeft hs (List.dropWhile_suffix _).length_le

/-- A record joins the ring while the lead list is empty (R149). -/
theorem keeps_placeInRing (r : RingEntry) {s : State} (h : storesSound s.hbu → s.hbu.lead = []) : Keeps s (placeInRing r s) :=
  (sameLine_placeInRing r s).keeps fun hs => by
    rw [placeInRing_hbu]
    exact storesSound_ring hs (placeInRing_length r hs.1) (.inr (h hs))

theorem keeps_appendRing (r : RingEntry) {s : State} (h : s.hbu.lead = []) : Keeps s (appendRing r s) :=
  (keeps_expireRing r.stamp s).trans (keeps_placeInRing r fun _ => by rw [expireRing_hbu]; exact h)

/-- Signatures leave the lead list. -/
theorem keeps_leadLeft {s : State} {lead : List Signature} (h : lead.length ≤ s.hbu.lead.length) :
    Keeps s { s with hbu := { s.hbu with lead := lead } } :=
  .hbu fun hs => storesSound_leadLeft hs h

theorem keeps_standbyRecord (r : RingEntry) (s : State) : Keeps s (standbyRecord r s) := by
  unfold standbyRecord
  split
  case isTrue hlead => exact keeps_appendRing r hlead
  case isFalse =>
    split
    · exact .refl s
    · split
      case h_1 rest hm => exact keeps_leadLeft (dropThrough_length hm).le
      case h_2 =>
        have emptied : Keeps s { s with hbu := { s.hbu with lead := [] } } := keeps_leadLeft (Nat.zero_le _)
        exact emptied.trans (keeps_appendRing r rfl)

theorem keeps_catchUpGap (r : RingEntry) (s : State) : Keeps s (catchUpGap r s) := by
  have emptied : Keeps s { s with hbu := { s.hbu with lead := [] } } := keeps_leadLeft (Nat.zero_le _)
  exact (emptied.trans (keeps_goLive _)).trans (keeps_offerRecord _ _)

theorem keeps_catchUpRecord (r : RingEntry) (s : State) : Keeps s (catchUpRecord r s) := by
  have counted : Keeps s { s with hbu := { s.hbu with catchUpCount := s.hbu.catchUpCount + 1 } } :=
    .hbu fun hs => hs
  unfold catchUpRecord
  dsimp only
  split
  · exact counted.trans (keeps_catchUpGap r _)
  · split
    · exact counted
    · split
      case h_1 rest hm =>
        have matched := counted.trans (keeps_leadLeft (dropThrough_length hm).le)
        split
        · exact matched.trans (keeps_goLive _)
        · exact matched
      case h_2 => exact counted.trans (keeps_catchUpGap r _)

theorem keeps_drainRecord (r : RingEntry) (s : State) : Keeps s (drainRecord r s) := by
  unfold drainRecord
  dsimp only
  split
  · exact ((keeps_expireRing r.stamp s).trans (keeps_goLive _)).trans (keeps_offerRecord _ _)
  case isFalse hring =>
    have place := keeps_placeInRing r (s := expireRing r.stamp s) fun hs => hs.2.2.1.resolve_left hring
    exact ((keeps_expireRing r.stamp s).trans place).trans (keeps_drainOffer _)

theorem keeps_takeRecord (r : RingEntry) (s : State) : Keeps s (takeRecord r s) := by
  unfold takeRecord
  split
  case h_1 => exact keeps_standbyRecord r s
  case h_2 => exact keeps_standbyRecord r s
  case h_3 =>
    split
    case h_1 => exact keeps_offerRecord _ s
    case h_2 => exact keeps_catchUpRecord r s
    case h_3 => exact keeps_drainRecord r s
    case h_4 => exact .refl s
  case h_4 => exact .refl s
  case h_5 => exact .refl s

theorem keeps_deliver (route : Route) (r : RingEntry) (s : State) : Keeps s (deliver route r s) := by
  cases route with
  | holdBack => exact keeps_takeRecord r s
  | admission => exact keeps_offerRecord _ s

/-! ## Role changes (chapter 7) -/

theorem keeps_startFlash (s : State) : Keeps s (startFlash s) := .aside (by simp)

theorem keeps_setOwner (s : State) : Keeps s (setRole .owner s) :=
  ⟨rfl, id, id, fun hl => ⟨hl.1, fun _ => rfl⟩⟩

/-- A new owner holds the line as the taker did: its TAKE is withdrawn or goes on (R122). -/
theorem keeps_newOwner (a : Option Signature) (s : State) : Keeps s (newOwner a s) := by
  have role := ((keeps_stopHandover s).trans (keeps_withdrawTake _)).trans (keeps_setOwner _)
  have admitted : SameLine (setRole .owner (withdrawTake (stopHandover s))) (newOwner a s) :=
    ⟨rfl, rfl, rfl, rfl, rfl, fun c => by cases c <;> rfl⟩
  refine role.trans (admitted.keeps fun hs => ?_)
  rw [(newOwner_frame a s).1]
  exact resolveAnchor_sound a hs

theorem keeps_enterOwner (a : Option Signature) (s : State) : Keeps s (enterOwner a s) := by
  have offered : Keeps s (firstOffer (newOwner a s)) := by
    unfold firstOffer
    split
    · exact (keeps_newOwner a s).trans (keeps_drainOffer _)
    · exact keeps_newOwner a s
  rw [enterOwner_newOwner]
  exact ((offered.trans (keeps_requestStatus _)).trans (keeps_refreshLamp _)).trans (keeps_startFlash _)

theorem keeps_requestYield (a : Option Address) (r : YieldReason) (s : State) : Keeps s (requestYield a r s) :=
  .same (sameLine_requestYield a r s) rfl

theorem keeps_requestTake (m : Nat) (g : Option Signature) (s : State) : Keeps s (requestTake m g s) :=
  .same (sameLine_requestTake m g s) rfl

theorem keeps_yieldWith (a : Option Address) (r : YieldReason) (s : State) : Keeps s (yieldWith a r s) :=
  (keeps_requestYield a r s).trans (keeps_changeRole .yielding _)

theorem keeps_endYield (s : State) : Keeps s (endYield s) := by
  unfold endYield
  split
  · exact keeps_changeRole _ s
  · exact .refl s

theorem keeps_fallRole (s : State) : Keeps s (fallRole s) := by
  have falls : Keeps s (changeRole (restingRole s) (stopHandover s)) := (keeps_stopHandover s).trans (keeps_changeRole _ _)
  unfold fallRole
  split
  case h_1 => exact falls
  case h_2 => exact falls
  case h_3 => exact falls
  case h_4 => exact keeps_clearChallenge s
  case h_5 => exact keeps_clearChallenge s

theorem keeps_giveUpTake (r : Role) (s : State) : Keeps s (giveUpTake r s) :=
  ((keeps_withdrawTake s).trans (keeps_stopHandover _)).trans (keeps_changeRole r _)

theorem keeps_addressClash (s : State) : Keeps s (addressClash s) := by
  have held (u : State) (hu : u.ri.tx = .silent) : Keeps u
      { u with ri := { u.ri with clashFlag := true, clashCarried := false, clashHold := some 2000 } } :=
    .silent hu rfl rfl fun c => by cases c <;> exact Nat.le_refl _
  exact (((keeps_lineCut s).trans (held _ (lineCut_tx s))).trans (keeps_refreshLamp _)).trans (keeps_fallRole _)

theorem keeps_roleAtAcqChange (new : AcqState) (s : State) : Keeps s (roleAtAcqChange new s) := by
  unfold roleAtAcqChange
  split
  case h_1 => split; exacts [keeps_changeRole _ s, .refl s]
  case h_2 => split; exacts [keeps_changeRole _ s, .refl s]
  case h_3 => split; exacts [.refl s, keeps_giveUpTake _ s]
  case h_4 =>
    split
    · exact keeps_yieldWith _ _ s
    · split
      · split; exacts [.refl s, keeps_yieldWith _ _ s]
      · exact .refl s
  case h_5 => exact .refl s

/-- What moves the acquisition side keeps the bus side sound. -/
theorem Turns.keeps {s t : State} (h : Turns s t) : Keeps s t := by
  induction h with
  | refl => exact .refl s
  | tail _ hturn ih =>
    refine ih.trans ?_
    cases hturn with
    | aside hsame =>
      obtain ⟨hsilence, hlow, -, hri, hou, hhbu, -⟩ := hsame
      exact .aside ⟨hlow, hsilence, by rw [hou], hri, hhbu⟩
    | role new => exact keeps_roleAtAcqChange new _

/-! ## Attempts, and what waits (R91, R62, R148, R170) -/

/-- Only an owner selects a PAYLOAD (R97, R99). -/
theorem selectFrame_payload {s : State} {c : ServiceClass} (h : selectFrame s = some (.payload c)) : s.ou.role = .owner := by
  unfold selectFrame at h
  by_contra hr
  simp only [hr, if_false] at h
  split at h
  · cases h
  · split at h
    · cases h
    · split at h <;> cases h

/-- A frame that the station may start is one it may send (R91, R99). -/
theorem keeps_startsFrame {s : State} {sel : Selection} (h : allowedFrame s = some sel) :
    Keeps s { s with ri := { s.ri with busView := .busy, tx := .arbitrating sel } } := by
  obtain ⟨hmay, hsel⟩ : mayTransmit s = true ∧ selectFrame s = some sel := by
    unfold allowedFrame at h
    split at h
    · exact ⟨‹_›, h⟩
    · cases h
  refine ⟨rfl, fun hq => queuesSound_iff.mpr fun c => ?_, id, fun _ => ⟨fun _ => hmay, fun hp => ?_⟩⟩
  · have := queuesSound_iff.mp hq c
    cases c <;> exact this
  · cases sel with
    | payload c => exact selectFrame_payload hsel
    | yield => cases hp
    | take => cases hp
    | status => cases hp

theorem keeps_attempt (s : State) : Keeps s (attempt s) := by
  rcases attempt_cases s with h | ⟨sel, -, -, hsel, h⟩ <;> rw [h]
  · exact .refl s
  · exact keeps_startsFrame hsel

theorem keeps_settleRecord (s : State) : Keeps s (settleRecord s) := by
  unfold settleRecord
  split
  · exact .refl s
  case h_2 route r _ =>
    have taken : Keeps s { s with waiting := { s.waiting with record := none } } := .aside ⟨rfl, rfl, rfl, rfl, rfl⟩
    exact taken.trans (keeps_deliver route r _)

theorem keeps_settleBurst (s : State) : Keeps s (settleBurst s) := by
  unfold settleBurst
  split
  · have reported : Turns s (reportCause .errorBurst { s with waiting := { s.waiting with burst := false } }) :=
      (turns_reportCause .errorBurst _).after sameBusSide_rfl
    exact reported.keeps
  · exact .refl s

theorem keeps_takeWaiting (s : State) : Keeps s (takeWaiting s) := by
  unfold takeWaiting
  split
  · exact .refl s
  · exact ((keeps_settleRecord s).trans (keeps_settleBurst _)).trans (keeps_attempt _)

end Sys2Proof.Machine

/-! # Proofs: every step keeps the line, the queues and the stores (R91, R96, R99, R112, R139 to R149, R193) -/

namespace Sys2Proof.Machine

/-! ## Timers (R67, R111, R114, R115, R130) -/

theorem keeps_challenge (s : State) : Keeps s (challenge s) :=
  ((keeps_requestTake _ _ s).trans (keeps_changeRole .taking _)).trans (keeps_startHandover _)

theorem keeps_challengeTest (s : State) : Keeps s (challengeTest s) := by
  have cleared := keeps_clearChallenge s
  unfold challengeTest
  split
  · split
    · exact cleared
    · split
      · split
        · exact keeps_challenge s
        · exact .aside ⟨rfl, rfl, rfl, rfl, rfl⟩
      · exact cleared
  · exact cleared

theorem keeps_standbyDecision (s : State) : Keeps s (standbyDecision s) := by
  unfold standbyDecision
  split
  · exact keeps_enterOwner _ s
  · exact keeps_challengeTest s

theorem keeps_ownerDecision (s : State) : Keeps s (ownerDecision s) := by
  unfold ownerDecision
  split
  · split
    · exact .refl s
    · exact keeps_yieldWith _ _ s
  · exact .refl s

theorem keeps_periodicDecision (s : State) : Keeps s (periodicDecision s) := by
  unfold periodicDecision
  split
  case h_1 => exact keeps_standbyDecision s
  case h_2 => exact keeps_ownerDecision s
  all_goals exact .refl s

theorem keeps_ownershipExpiry (s : State) : Keeps s (ownershipExpiry s) := by
  have aged : Keeps s (recordMark (ageView s)) := .aside ⟨rfl, rfl, rfl, rfl, rfl⟩
  exact (aged.trans (keeps_periodicDecision _)).trans (keeps_requestStatus _)

theorem keeps_shareExpiry (s : State) : Keeps s (shareExpiry s) := .aside ⟨rfl, rfl, rfl, rfl, rfl⟩

theorem keeps_takeExpiry (b : Bool) (s : State) : Keeps s (takeExpiry b s) := by
  have closed : Keeps s (closePeriods s) := .aside ⟨rfl, rfl, rfl, rfl, rfl⟩
  unfold takeExpiry
  dsimp only
  split
  · exact (closed.trans (keeps_shareExpiry _)).trans (keeps_ownershipExpiry _)
  · exact (closed.trans (keeps_ownershipExpiry _)).trans (keeps_shareExpiry _)

theorem keeps_handoverDecision (s : State) : Keeps s (handoverDecision s) := by
  unfold handoverDecision
  split
  · split
    · exact keeps_giveUpTake .standby s
    · split
      · exact keeps_enterOwner _ s
      · exact .refl s
  · exact .refl s

/-- The end of the hold leaves the station as free to drive the line as it was, or more (R111). -/
theorem keeps_endClashHold (s : State) : Keeps s (endClashHold s) := by
  have ended : Keeps s { s with ri := { s.ri with clashHold := none } } := by
    refine ⟨rfl, fun hq => queuesSound_iff.mpr fun c => ?_, id, fun ⟨hdrive, hpay⟩ => ⟨fun htx => ?_, hpay⟩⟩
    · have := queuesSound_iff.mp hq c
      cases c <;> exact this
    · have hfree : s.silence = false := by
        have := hdrive htx
        simp only [mayTransmit, Bool.and_eq_true, Bool.not_eq_true'] at this
        exact this.1
      simp [mayTransmit, hfree]
  exact (ended.trans (keeps_refreshLamp _)).trans (keeps_attempt _)

/-! ## The riser line and the station's own frames (R90 to R102) -/

/-- A station that drives the line drives another frame; it begins no PAYLOAD. -/
theorem Keeps.drives {s t : State} (hpins : t.resetLow = s.resetLow ∧ t.silence = s.silence) (hrole : t.ou.role = s.ou.role)
    (hhold : t.ri.clashHold = s.ri.clashHold) (hhbu : t.hbu = s.hbu) (htx : s.ri.tx ≠ .silent)
    (hpay : sendsPayload t.ri.tx = true → sendsPayload s.ri.tx = true)
    (hq : ∀ c, (queueOf c t.ri).length ≤ (queueOf c s.ri).length) : Keeps s t where
  low := hpins.1
  queues h := queuesSound_iff.mpr fun c => (hq c).trans (queuesSound_iff.mp h c)
  stores := by rw [hhbu]; exact id
  line := fun ⟨hdrive, howner⟩ =>
    ⟨fun _ => (mayTransmit_congr hpins.2 hhold).trans (hdrive htx), fun hp => hrole.trans (howner (hpay hp))⟩

/-- A frame that wins is the frame the station already had in arbitration (R98). -/
theorem keeps_winFrame {sel : Selection} {s : State} (htx : s.ri.tx = .arbitrating sel) : Keeps s (winFrame sel s) := by
  have drives : s.ri.tx ≠ .silent := by rw [htx]; nofun
  unfold winFrame
  split
  case h_1 =>
    exact .drives (by simp) (by simp) rfl (by simp) drives nofun fun c => by cases c <;> exact Nat.le_refl _
  case h_2 =>
    split
    · exact keeps_stopDriving s
    · exact .drives ⟨rfl, rfl⟩ rfl rfl rfl drives nofun fun c => by cases c <;> exact Nat.le_refl _
  case h_3 =>
    split
    · exact keeps_stopDriving s
    · exact .drives ⟨rfl, rfl⟩ rfl rfl rfl drives nofun fun c => by cases c <;> exact Nat.le_refl _
  case h_4 c =>
    split
    · exact keeps_stopDriving s
    case h_2 e rest hqueue =>
      have hhold : (withQueue c rest s.ri).clashHold = s.ri.clashHold := by cases c <;> rfl
      have hleft (d : ServiceClass) : (queueOf d (withQueue c rest s.ri)).length ≤ (queueOf d s.ri).length := by
        by_cases hd : d = c
        · rw [hd, queueOf_withQueue_self, hqueue]
          exact Nat.le_succ _
        · rw [queueOf_withQueue_ne hd]
      exact .drives ⟨rfl, rfl⟩ rfl hhold rfl drives (fun _ => by rw [htx]; rfl) fun d => by
        have := hleft d
        cases d <;> exact this

theorem keeps_winArbitration (s : State) : Keeps s (winArbitration s) := by
  unfold winArbitration
  split
  case h_1 sel htx => exact keeps_winFrame htx
  all_goals exact .refl s

theorem keeps_loseArbitration (s : State) : Keeps s (loseArbitration s) := by
  unfold loseArbitration
  split
  case h_1 => exact keeps_stopDriving s
  all_goals exact .refl s

theorem keeps_mismatch (s : State) : Keeps s (mismatch s) := by
  unfold mismatch
  split
  case h_1 => exact keeps_addressClash s
  all_goals exact .refl s

theorem keeps_settleReports (s : State) : Keeps s (settleReports (settleCauses s)) :=
  .same ⟨rfl, rfl, rfl, rfl, rfl, fun c => by cases c <;> rfl⟩ rfl

theorem keeps_frameSentEffect (f : Frame) (s : State) : Keeps s (frameSentEffect f s) := by
  unfold frameSentEffect
  split
  case h_1 => exact keeps_settleReports s
  case h_2 =>
    split
    · exact keeps_startHandover s
    · exact .refl s
  case h_3 => exact keeps_endYield s
  case h_4 h _ =>
    have sent : Keeps s { s with ri := { s.ri with lastSent := some h.signature } } :=
      .same ⟨rfl, rfl, rfl, rfl, rfl, fun c => by cases c <;> rfl⟩ rfl
    dsimp only
    split
    · exact sent.trans (keeps_drainOffer _)
    · exact sent

theorem keeps_completeFrame (s : State) : Keeps s (completeFrame s) := by
  unfold completeFrame
  split
  case h_1 f _ => exact (keeps_stopDriving s).trans (keeps_frameSentEffect f _)
  all_goals exact .refl s

theorem keeps_setView (v : BusView) (s : State) : Keeps s (setView v s) := .same (sameLine_setView v s) rfl

theorem keeps_joinFrame (s : State) : Keeps s (joinFrame s) := by
  unfold joinFrame
  split
  · exact keeps_setView .busy s
  case h_2 sel hsel => exact keeps_startsFrame hsel

/-! ## Frames heard (R107 to R109, R117, R119, R126, R128, R129, R133, R134, R143) -/

theorem keeps_answerOwner (f : StatusFrame) (s : State) : Keeps s (answerOwner f s) := by
  unfold answerOwner
  split
  case h_1 =>
    split
    · exact keeps_giveUpTake .standby s
    · exact .refl s
  case h_2 =>
    split
    · exact keeps_yieldWith _ _ s
    · exact keeps_requestStatus s
  all_goals exact .refl s

theorem keeps_dispatchStatus (f : StatusFrame) (s : State) : Keeps s (dispatchStatus f s) := by
  unfold dispatchStatus
  dsimp only
  split
  · exact (keeps_mapPeers _ s).trans (keeps_answerOwner f _)
  · exact keeps_mapPeers _ s

theorem keeps_answerTake (f : TakeFrame) (s : State) : Keeps s (answerTake f s) := by
  unfold answerTake
  split
  · exact keeps_yieldWith _ _ s
  · exact keeps_requestStatus s

theorem keeps_dispatchTake (f : TakeFrame) (s : State) : Keeps s (dispatchTake f s) := by
  unfold dispatchTake
  dsimp only
  split
  · exact (keeps_mapPeers _ s).trans (keeps_answerTake f _)
  · exact keeps_mapPeers _ s

theorem keeps_takerHearsYield (f : YieldFrame) (s : State) : Keeps s (takerHearsYield f s) := by
  have enters : Keeps s (if mayTransmit s then enterOwner f.lastSignature s else s) := by
    split
    · exact keeps_enterOwner _ s
    · exact .refl s
  unfold takerHearsYield
  split
  · exact enters
  · split
    · exact enters
    · exact keeps_giveUpTake .standby s

theorem keeps_standbyHearsYield (f : YieldFrame) (s : State) : Keeps s (standbyHearsYield f s) := by
  unfold standbyHearsYield
  split
  · exact keeps_enterOwner _ s
  · exact .refl s

theorem keeps_answerYield (f : YieldFrame) (s : State) : Keeps s (answerYield f s) := by
  unfold answerYield
  split
  case h_1 => exact keeps_takerHearsYield f s
  case h_2 => exact keeps_standbyHearsYield f s
  all_goals exact .refl s

theorem keeps_dispatchYield (f : YieldFrame) (s : State) : Keeps s (dispatchYield f s) := by
  unfold dispatchYield
  dsimp only
  split
  · exact (keeps_mapPeers _ s).trans (keeps_answerYield f _)
  · exact keeps_mapPeers _ s

theorem keeps_holdBackHears (h : PayloadHeader) (s : State) : Keeps s (holdBackHears h s) := by
  unfold holdBackHears
  split
  · exact .hbu (matchPayload_sound h.signature)
  · exact .refl s

theorem keeps_dispatchPayload (h : PayloadHeader) (s : State) : Keeps s (dispatchPayload h s) := by
  unfold dispatchPayload
  split
  · have heard : Keeps (holdBackHears h s) (ownershipHears h (holdBackHears h s)) := .aside ⟨rfl, rfl, rfl, rfl, rfl⟩
    exact (keeps_holdBackHears h s).trans heard
  · exact .aside ⟨rfl, rfl, rfl, rfl, rfl⟩

theorem keeps_ownAddressHeard (s : State) : Keeps s (ownAddressHeard s) := by
  unfold ownAddressHeard
  split
  · exact keeps_addressClash s
  · exact .refl s

theorem keeps_countReceiveError (s : State) : Keeps s (countReceiveError s) := .same (sameLine_countReceiveError s) rfl

theorem keeps_receive (good : Bool) (a : Address) {f : State → State} (hf : ∀ s, Keeps s (f s)) (s : State) :
    Keeps s (receive good a f s) := by
  have busy := keeps_setView .busy s
  unfold receive
  dsimp only
  split
  · split
    · exact busy.trans (keeps_ownAddressHeard _)
    · split
      · exact busy.trans (hf _)
      · exact busy
  · exact busy.trans (keeps_countReceiveError _)

theorem keeps_errorEvent (bytes : List Byte) (s : State) : Keeps s (errorEvent bytes s) := by
  unfold errorEvent
  split
  · exact (keeps_setView .busy s).trans (keeps_countReceiveError _)
  · exact .refl s

theorem keeps_ownAddressEvent (bytes : List Byte) (s : State) : Keeps s (ownAddressEvent bytes s) := by
  unfold ownAddressEvent
  split
  · exact .refl s
  · split
    · exact (keeps_setView .busy s).trans (keeps_ownAddressHeard _)
    · exact .refl s

/-! ## Decoded packets (R57 to R63, R77 to R81) -/

theorem keeps_handOn (later : Bool) (r : RingEntry) (s : State) : Keeps s (handOn later r s) := by
  unfold handOn
  split
  · exact .refl s
  case h_2 route _ =>
    split
    · exact .aside ⟨rfl, rfl, rfl, rfl, rfl⟩
    · exact keeps_deliver route r s

theorem keeps_lookup (later : Bool) (r : PacketRecord) (s : State) : Keeps s (lookup later r s) := by
  unfold lookup
  split
  · exact .refl s
  · split
    · exact .refl s
    case h_2 e _ =>
      split
      · exact keeps_countDrop e.cls s
      · have marked : Keeps s { s with services := markUse r.inputId s.services } := .aside ⟨rfl, rfl, rfl, rfl, rfl⟩
        exact marked.trans (keeps_handOn later _ _)

theorem keeps_countError (errored : Bool) (s : State) : Keeps s (countError errored s) := by
  unfold countError
  dsimp only
  split <;> exact .aside ⟨rfl, rfl, rfl, rfl, rfl⟩

theorem keeps_packetInTrack (p : Packet) (u later : Bool) (s : State) : Keeps s (packetInTrack p u later s) := by
  have counted (e : Bool) : Keeps s { s with pru := { s.pru with tallies := tallyPacket e s.pru.tallies } } :=
    .aside ⟨rfl, rfl, rfl, rfl, rfl⟩
  exact ((counted _).trans (keeps_lookup later _ _)).trans (keeps_countError _ _)

theorem keeps_takePacket (p : Packet) (u later : Bool) (s : State) : Keeps s (takePacket p u later s) := by
  unfold takePacket
  split
  case h_1 => exact keeps_packetInTrack p u later s
  case h_2 => exact keeps_countError _ s
  all_goals exact .refl s

theorem keeps_packetEvent (p : Packet) (report : PacketReport) (s : State) : Keeps s (packetEvent p report s) := by
  have taken := (keeps_settleRecord s).trans (keeps_takePacket p report.uncorrectable report.recordLater _)
  unfold packetEvent
  dsimp only
  split
  · exact taken
  · exact taken.trans (keeps_settleBurst _)

/-! ## The configuration fetch and the boundary (R22, R178 to R187) -/

/-- The fetch ends with the station released into GAIN (R187). -/
theorem keeps_completeFetch (s : State) : Keeps s (completeFetch s) := by
  have set : Keeps s (released s.loader.kept s) := .aside ⟨rfl, rfl, rfl, rfl, rfl⟩
  rw [completeFetch_eq]
  exact set.trans (turns_enterGain _).keeps

/-- The beginnings of the commands that read the configuration memory. -/
theorem Begins.keeps_read {c : Instr} {s u : State} (hc : (∃ d, c = .headerRead d) ∨ ∃ d, c = .recordRead d)
    (h : Begins c s u) : Keeps s u := by
  cases h with
  | plain => exact .refl s
  | silence _ h => rcases hc with ⟨d, rfl⟩ | ⟨d, rfl⟩ <;> rcases h with h | h <;> cases h
  | leave _ h => rcases hc with ⟨d, rfl⟩ | ⟨d, rfl⟩ <;> cases h
  | fetch => exact .aside ⟨rfl, rfl, rfl, rfl, rfl⟩
  | complete l =>
    have set : Keeps s { s with loader := l } := .aside ⟨rfl, rfl, rfl, rfl, rfl⟩
    exact set.trans (keeps_completeFetch _)
  | report _ h => rcases hc with ⟨d, rfl⟩ | ⟨d, rfl⟩ <;> cases h

theorem keeps_recordReadEvent (data : List Byte) (s : State) : Keeps s (recordReadEvent data s) := by
  unfold recordReadEvent
  split
  · split
    case isTrue hf => exact (begins_takeRecordRead _ data (fetchAt_iff.mp hf).2).keeps_read (.inr ⟨data, rfl⟩)
    case isFalse => exact .refl s
  all_goals exact .refl s

theorem keeps_boundaryBefore (b : Bool) (s : State) : Keeps s (boundaryBefore b s) := by
  unfold boundaryBefore
  split
  · exact (turns_boundaryEvent true s).keeps.trans (keeps_attempt _)
  · exact .refl s

theorem keeps_merEvent (mer : Int) (s : State) : Keeps s (merEvent mer s) := by
  unfold merEvent
  split
  · exact .aside ⟨rfl, rfl, rfl, rfl, rfl⟩
  · exact .refl s

/-! ## The pins (R112, R113, R137, R193) -/

/-- At the assertion of SILENCE the station stops driving before its role falls (R112, R137). -/
theorem keeps_assertSilence (s : State) : Keeps s (assertSilence s) := by
  have cut : Keeps s (lineCut { s with silence := true }) :=
    .silent (lineCut_tx _) (by simp [lineCut]) (by simp [lineCut]) (by simp [lineCut])
  unfold assertSilence
  split
  · exact .refl s
  · exact cut.trans (keeps_fallRole _)

/-- A station that drives the line may drive it with SILENCE released. -/
theorem keeps_released (s : State) : Keeps s { s with silence := false } := by
  refine ⟨rfl, id, id, fun ⟨hdrive, hpay⟩ => ⟨fun htx => ?_, hpay⟩⟩
  have := hdrive htx
  simp only [mayTransmit, Bool.and_eq_true] at this
  simp [mayTransmit, this.2]

theorem keeps_releaseSilence (s : State) : Keeps s (releaseSilence s) := by
  unfold releaseSilence
  split
  · exact (keeps_released s).trans (keeps_attempt _)
  · exact .refl s

/-! ## Every command -/

/-- A gated command keeps what its effect keeps. -/
theorem keeps_of_gated {f : State → State} {s t : State} (h : whenRunning f s = .next t) (hf : Keeps s (f s)) :
    Keeps s t := by
  unfold whenRunning at h
  split at h <;> cases h
  · exact .refl s
  · exact hf.trans (keeps_takeWaiting _)

/-- What a command's effect on a condition keeps. -/
theorem keeps_ite {p : Prop} [Decidable p] {s t : State} (h : Keeps s t) : Keeps s (if p then t else s) := by
  split
  · exact h
  · exact .refl s

/-- A command that reaches neither the riser interface, the role nor the stores. -/
theorem keeps_of_apart {c : Instr} {s t : State} (hpin : c ≠ .reset ∧ ∀ straps, c ≠ .resetEnd straps)
    (hb : ∀ b ∈ [Block.ri, .ou, .hbu], b ∉ blocksOf c) (h : exec c s = .next t) : Keeps s t := by
  obtain ⟨u, v, hu, hm, ht⟩ := exec_brings hpin.1 h
  have hri := hb .ri (by simp)
  have begun : Keeps s u := by
    cases hu with
    | plain => exact .refl s
    | silence _ h => rcases h with rfl | rfl <;> exact absurd (by decide) hri
    | leave straps h => exact absurd h (hpin.2 straps)
    | fetch => exact .aside ⟨rfl, rfl, rfl, rfl, rfl⟩
    | complete _ h => rcases h with ⟨d, rfl⟩ | ⟨d, rfl⟩ <;> exact absurd (by simp [blocksOf]) (hb .ou (by simp))
    | report _ h => subst h; exact absurd (by decide) hri
  have hsame := hm.changesOnly
  obtain ⟨-, hsilence, hlow, -⟩ := id hsame
  have hou : v.ou = u.ou := hsame.same (hb .ou (by simp))
  have moved : Keeps u v := .aside ⟨hlow, hsilence, by rw [hou], hsame.same hri, hsame.same (hb .hbu (by simp))⟩
  rcases ht with rfl | ⟨-, rfl⟩
  · exact begun.trans moved
  · exact (begun.trans moved).trans (keeps_takeWaiting _)

/-- Every command but RESET, its end, and the assertion of SILENCE keeps queues, stores and line. -/
theorem exec_keeps {c : Instr} {s t : State} (hreset : c ≠ .reset ∧ ∀ straps, c ≠ .resetEnd straps)
    (hassert : c = .silenceAssert → s.resetLow = false) (h : exec c s = .next t) : Keeps s t := by
  cases c with
  | reset => exact absurd rfl hreset.1
  | resetEnd straps => exact absurd rfl (hreset.2 straps)
  | headerRead d =>
    refine keeps_of_gated (show execHeaderRead d s = .next t from h) ?_
    split
    case isTrue hf => exact (begins_takeHeader d (fetchAt_iff.mp hf).2).keeps_read (.inl ⟨d, rfl⟩)
    case isFalse => exact .refl s
  | recordRead d => exact keeps_of_gated (show execRecordRead d s = .next t from h) (keeps_recordReadEvent d s)
  | sample d =>
    have settled := (turns_settleSamples s).keeps.trans (keeps_attempt _)
    exact keeps_of_gated (show execSample d s = .next t from h) (settled.trans (turns_takeSample d _).keeps)
  | gainMeasurement =>
    exact keeps_of_gated (show execGainMeasurement s = .next t from h) ((turns_measureIfDue s).keeps.trans (keeps_attempt _))
  | trialEnd => exact keeps_of_gated (show execTrialEnd s = .next t from h) (turns_endTrialIfDue s).keeps
  | symbolBoundary b =>
    exact keeps_of_gated (show execSymbolBoundary b s = .next t from h)
      ((turns_boundaryEvent b s).keeps.trans (keeps_attempt _))
  | framePass => exact keeps_of_gated (show execFramePass s = .next t from h) (keeps_ite (turns_takePass s).keeps)
  | holdLimit =>
    exact keeps_of_gated (show execHoldLimit s = .next t from h)
      (keeps_ite ((turns_takeHoldLimit s).keeps.trans (keeps_attempt _)))
  | merMeasurement mer b =>
    exact keeps_of_gated (show execMerMeasurement mer b s = .next t from h)
      ((keeps_boundaryBefore b s).trans (keeps_merEvent mer _))
  | syncFound b =>
    exact keeps_of_gated (show execSyncFound b s = .next t from h)
      ((keeps_boundaryBefore b s).trans (turns_takeSyncFound _).keeps)
  | frameCheck r =>
    exact keeps_of_gated (show execFrameCheck r s = .next t from h) ((turns_takeFrameCheck r s).keeps.trans (keeps_attempt _))
  | packetDecoded p r =>
    change execPacketDecoded p r s = .next t at h
    unfold execPacketDecoded at h
    split at h <;> cases h
    · exact .refl s
    · exact (keeps_packetEvent p r s).trans (keeps_attempt _)
  | reportExpiry b =>
    exact keeps_of_gated (show execReportExpiry b s = .next t from h)
      (keeps_ite ((keeps_takeExpiry b s).trans (keeps_attempt _)))
  | handoverTimerExpiry =>
    have decided := (keeps_stopHandover s).trans (keeps_handoverDecision _)
    exact keeps_of_gated (show execHandoverTimerExpiry s = .next t from h) (keeps_ite (decided.trans (keeps_attempt _)))
  | addressClashHoldEnd =>
    exact keeps_of_gated (show execAddressClashHoldEnd s = .next t from h) (keeps_ite (keeps_endClashHold s))
  | busIdle =>
    have idle : Keeps s (lineIdle s) := .same (sameLine_lineIdle s) rfl
    exact keeps_of_gated (show execBusIdle s = .next t from h) (keeps_ite (idle.trans (keeps_attempt _)))
  | startBit => exact keeps_of_gated (show execStartBit s = .next t from h) (keeps_ite (keeps_joinFrame s))
  | arbitrationWon => exact keeps_of_gated (show execArbitrationWon s = .next t from h) (keeps_winArbitration s)
  | arbitrationLost => exact keeps_of_gated (show execArbitrationLost s = .next t from h) (keeps_loseArbitration s)
  | readbackMismatch => exact keeps_of_gated (show execReadbackMismatch s = .next t from h) (keeps_mismatch s)
  | frameSent => exact keeps_of_gated (show execFrameSent s = .next t from h) (keeps_completeFrame s)
  | statusReceived f =>
    exact keeps_of_gated (show execStatusReceived f s = .next t from h) (keeps_receive _ _ (keeps_dispatchStatus f) s)
  | takeReceived f =>
    exact keeps_of_gated (show execTakeReceived f s = .next t from h) (keeps_receive _ _ (keeps_dispatchTake f) s)
  | yieldReceived f =>
    exact keeps_of_gated (show execYieldReceived f s = .next t from h) (keeps_receive _ _ (keeps_dispatchYield f) s)
  | payloadReceived f =>
    exact keeps_of_gated (show execPayloadReceived f s = .next t from h) (keeps_receive _ _ (keeps_dispatchPayload f) s)
  | receiveError b => exact keeps_of_gated (show execReceiveError b s = .next t from h) (keeps_errorEvent b s)
  | ownAddressFrame b => exact keeps_of_gated (show execOwnAddressFrame b s = .next t from h) (keeps_ownAddressEvent b s)
  | silenceAssert =>
    change execSilenceAssert s = .next t at h
    simp only [execSilenceAssert, hassert rfl, Bool.false_eq_true, if_false] at h
    exact keeps_of_gated h (keeps_assertSilence s)
  | silenceRelease =>
    change execSilenceRelease s = .next t at h
    unfold execSilenceRelease at h
    split at h
    · cases h
      exact keeps_released s
    · exact keeps_of_gated h (keeps_releaseSilence s)
  | resetEnableCommand | resetCommand | recoveryWaitEnd | retryTimerExpiry | runEnd | overlongRun | predictionMiss
  | outputPeriodEnd | profileUpdate | admissionTick | suspensionHoldEnd | handoverFlashEnd =>
    exact keeps_of_apart hreset (by simp [blocksOf]) h

/-! ## Every step (R91, R96, R99, R112, R139 to R149, R193) -/

theorem exec_resetEnd_next {straps : BitVec 4} {s t : State} (h : exec (.resetEnd straps) s = .next t) :
    t = s ∨ (s.resetLow = true ∧ t = leaveReset straps s) := by
  change execResetEnd straps s = .next t at h
  unfold execResetEnd at h
  split at h <;> cases h
  · exact .inr ⟨‹_›, rfl⟩
  · exact .inl rfl

/-- With RESET low the assertion of SILENCE is noted, and nothing else changes (R193). -/
theorem exec_silenceAssert_low {s t : State} (hlow : s.resetLow = true) (h : exec .silenceAssert s = .next t) :
    t = { s with silence := true } := by
  change execSilenceAssert s = .next t at h
  rw [execSilenceAssert, if_pos hlow] at h
  cases h
  rfl

/-- With RESET low no command but RESET itself reaches the riser interface (R193). -/
theorem exec_low_ri {c : Instr} {s t : State} (hc : c ≠ .reset) (hlow : s.resetLow = true) (h : exec c s = .next t) :
    t.ri = s.ri := by
  have gated {f : State → State} (h : whenRunning f s = .next t) : t.ri = s.ri := by
    rw [whenRunning_low hlow] at h
    cases h
    rfl
  unfold exec at h
  cases c
  case reset => exact absurd rfl hc
  case resetEnd straps =>
    rcases exec_resetEnd_next h with rfl | ⟨-, rfl⟩ <;> rfl
  case packetDecoded p r =>
    simp only [execPacketDecoded, hlow, if_true] at h
    cases h
    rfl
  case silenceAssert =>
    rw [exec_silenceAssert_low hlow h]
  case silenceRelease =>
    simp only [execSilenceRelease, hlow, if_true] at h
    cases h
    rfl
  all_goals exact gated h

theorem exec_keeps_sound {c : Instr} {s t : State} (hq : queuesSound s) (hs : storesSound s.hbu) (h : exec c s = .next t) :
    queuesSound t ∧ storesSound t.hbu := by
  by_cases hpin : (c ≠ .reset ∧ ∀ straps, c ≠ .resetEnd straps) ∧ (c = .silenceAssert → s.resetLow = false)
  · have kept := exec_keeps hpin.1 hpin.2 h
    exact ⟨kept.queues hq, kept.stores hs⟩
  · cases c
    case reset =>
      rw [exec_reset_next h]
      simp [queuesSound, storesSound, heldAtReset, State.reset, Riser.reset, HoldBack.reset]
    case resetEnd straps =>
      rcases exec_resetEnd_next h with rfl | ⟨-, rfl⟩
      · exact ⟨hq, hs⟩
      · exact ⟨hq, hs⟩
    case silenceAssert =>
      have hlow : s.resetLow = true := by simpa using hpin
      rw [exec_silenceAssert_low hlow h]
      exact ⟨hq, hs⟩
    all_goals simp at hpin

/-- Settles O52: the commands keep the capacities and the stores operation by operation. -/
theorem stepKeepsQueuesAndStores : Obligations.StepKeepsQueuesAndStores := by
  intro s t hq hs h
  rcases step_next h with rfl | ⟨c, rest, hc⟩
  · exact ⟨hq, hs⟩
  · exact exec_keeps_sound (s := { s with pending := rest }) hq hs hc

theorem lineSound_of_silent {s : State} (h : s.ri.tx = .silent) : lineSound s :=
  lineSound_iff.mpr ⟨fun _ => h, lineHeld_silent h⟩

/-- A command that keeps the line with RESET high leaves it sound. -/
theorem Keeps.lineSound {s t : State} (h : Keeps s t) (hhigh : s.resetLow = false) (hs : lineHeld s) : lineSound t :=
  lineSound_iff.mpr ⟨fun hlow => absurd (hhigh.symm.trans (h.low.symm.trans hlow)) (by decide), h.line hs⟩

/-- With RESET low nothing is driven, and no command drives anything; with RESET high every command keeps the line (R91, R99,
R193). -/
theorem exec_keeps_lineSound {c : Instr} {s t : State} (hl : lineSound s) (h : exec c s = .next t) : lineSound t := by
  obtain ⟨hsilent, hheld⟩ := lineSound_iff.mp hl
  by_cases hreset : c = .reset
  · subst hreset
    rw [exec_reset_next h]
    exact lineSound_of_silent rfl
  cases hlow : s.resetLow with
  | true => exact lineSound_of_silent ((congrArg Riser.tx (exec_low_ri hreset hlow h)).trans (hsilent hlow))
  | false =>
    by_cases hend : ∃ straps, c = .resetEnd straps
    · obtain ⟨straps, rfl⟩ := hend
      rcases exec_resetEnd_next h with rfl | ⟨hlow', -⟩
      · exact hl
      · exact absurd (hlow.symm.trans hlow') (by decide)
    · exact (exec_keeps ⟨hreset, fun straps hc => hend ⟨straps, hc⟩⟩ (fun _ => hlow) h).lineSound hlow hheld

/-- Settles O56: the station begins a frame only when free to, and stops before it is cut off. -/
theorem stepKeepsLineDiscipline : Obligations.StepKeepsLineDiscipline := by
  intro s t hl h
  rcases step_next h with rfl | ⟨c, rest, hc⟩
  · exact hl
  · exact exec_keeps_lineSound (s := { s with pending := rest }) hl hc

end Sys2Proof.Machine

/-! # Proofs: an owner in LIVE admits by credit (R148, R161, R170 to R173) -/

namespace Sys2Proof.Machine

/-! ## A record in LIVE (R148, R170 to R173) -/

theorem takeRecord_live {r : RingEntry} {s : State} (hr : s.ou.role = .owner) (hp : s.hbu.phase = .live) :
    takeRecord r s = offerRecord (queueEntry r) s := by simp [takeRecord, hr, hp]

/-- A drop leaves the other classes' counts. -/
theorem countDrop_other {c d : ServiceClass} (h : d ≠ c) (s : State) : dropsOf d (countDrop c s).ri = dropsOf d s.ri := by
  rw [countDrop, countDrops_drops, if_neg h]

/-- Settles O30: the record is offered by its class, and is admitted or dropped as its test and its queue's room say. -/
theorem ownerAdmitsByCredit : Obligations.OwnerAdmitsByCredit := by
  intro r s hr hp passes t
  have ht : t = offerRecord (queueEntry r) s := takeRecord_live hr hp
  obtain ⟨hadmit, hdrop⟩ := offerRecord_owner (queueEntry r) hr
  have hframe : t.hbu = s.hbu ∧ t.ou = s.ou ∧ t.services = s.services := by simp [ht]
  obtain ⟨hhbu, hou, hservices⟩ := hframe
  refine ⟨by rw [ht, offerRecord_offered _ hr], hhbu, hou, hservices, fun h => ?_, fun h => ?_⟩
  · have hri : t.ri = withQueue r.cls (queueOf r.cls s.ri ++ [queueEntry r]) s.ri := by rw [ht, hadmit h]; rfl
    refine ⟨by rw [hri, queueOf_withQueue_self], ?_, hri⟩
    rw [ht, hadmit h]
    rfl
  · have hri : t.ri = (countDrop r.cls s).ri := by rw [ht, hdrop h]; rfl
    have hqueue (c : ServiceClass) : queueOf c t.ri = queueOf c s.ri := by rw [hri, countDrop, countDrops_queue]
    refine ⟨?_, hqueue r.cls, ?_, fun c hc => ⟨by rw [hri, countDrop_other hc], hqueue c⟩⟩
    · rw [ht, hdrop h, countOffered_credit, countDrop_sau]
    · rw [hri, countDrop_count, if_pos rfl]

end Sys2Proof.Machine

/-! # Proofs: the idle line and the start bit (R90 to R92, R97) -/

namespace Sys2Proof.Machine

/-! ## The frame that selection gives (R91, R97, R99) -/

theorem mayTransmit_iff {s : State} : mayTransmit s = true ↔ s.silence = false ∧ s.ri.clashHold = none := by
  simp [mayTransmit]

theorem allowedFrame_free {s : State} (h : s.silence = false ∧ s.ri.clashHold = none) : allowedFrame s = selectFrame s :=
  if_pos (mayTransmit_iff.mpr h)

theorem allowedFrame_cut {s : State} (h : ¬(s.silence = false ∧ s.ri.clashHold = none)) : allowedFrame s = none :=
  if_neg fun hm => h (mayTransmit_iff.mp hm)

/-- No control slot is filled. -/
def noSlot (s : State) : Prop := s.ri.yieldSlot = none ∧ s.ri.takeSlot = none ∧ s.ri.statusSlot = false

theorem selectFrame_yield {s : State} (h : s.ri.yieldSlot.isSome = true) : selectFrame s = some .yield := by
  simp [selectFrame, h]

theorem selectFrame_take {s : State} (hy : s.ri.yieldSlot = none) (ht : s.ri.takeSlot.isSome = true) :
    selectFrame s = some .take := by
  simp [selectFrame, hy, ht]

theorem selectFrame_status {s : State} (hy : s.ri.yieldSlot = none) (ht : s.ri.takeSlot = none)
    (hs : s.ri.statusSlot = true) : selectFrame s = some .status := by
  simp [selectFrame, hy, ht, hs]

/-- With no slot filled an owner selects the head of its first queue that holds a packet, and no other station a frame. -/
theorem selectFrame_noSlot {s : State} (h : noSlot s) : selectFrame s =
    if s.ou.role = .owner then
      if s.ri.premium ≠ [] then some (.payload .premium)
      else if s.ri.standard ≠ [] then some (.payload .standard)
      else if s.ri.spare ≠ [] then some (.payload .spare)
      else none
    else none := by
  obtain ⟨hy, ht, hs⟩ := h
  simp [selectFrame, hy, ht, hs]

/-! ## The line goes idle (R90, R91) -/

theorem exec_busIdle {s : State} (hr : running s) (htx : s.ri.tx = .silent) :
    exec .busIdle s = .next (attempt (lineIdle s)) := by
  have hf : (if s.ri.tx = .silent then attempt (lineIdle s) else s) = attempt (lineIdle s) := if_pos htx
  change execBusIdle s = _
  rw [execBusIdle, whenRunning_running hr (by rw [hf]; simp), hf]

theorem exec_busIdle_starts {s : State} {sel : Selection} (hr : running s) (htx : s.ri.tx = .silent)
    (h : allowedFrame s = some sel) : exec .busIdle s =
      .next { s with ri := { s.ri with busView := .busy, heardIdle := true, tx := .arbitrating sel } } := by
  rw [exec_busIdle hr htx, attempt_starts (lineIdle_busView s) htx h]
  rfl

theorem exec_busIdle_quiet {s : State} (hr : running s) (htx : s.ri.tx = .silent) (h : allowedFrame s = none) :
    exec .busIdle s = .next { s with ri := { s.ri with busView := .idle, heardIdle := true } } := by
  have settled : attemptSettled (lineIdle s) := fun _ _ => h
  rw [exec_busIdle hr htx, attempt_settled settled]
  rfl

/-! ## Another station's start bit, and a lost arbitration (R90 to R92) -/

theorem joinFrame_waiting (s : State) : (joinFrame s).waiting = s.waiting := by
  unfold joinFrame
  split <;> rfl

theorem exec_startBit {s : State} (hr : running s) (hidle : s.ri.busView = .idle) (htx : s.ri.tx = .silent) :
    exec .startBit s = .next (joinFrame s) := by
  have hf : (if s.ri.busView = .idle ∧ s.ri.tx = .silent then joinFrame s else s) = joinFrame s := if_pos ⟨hidle, htx⟩
  change execStartBit s = _
  rw [execStartBit, whenRunning_running hr (by rw [hf, joinFrame_waiting]), hf]

theorem joinFrame_some {s : State} {sel : Selection} (h : allowedFrame s = some sel) :
    joinFrame s = { s with ri := { s.ri with busView := .busy, tx := .arbitrating sel } } := by
  rw [joinFrame, h]

theorem joinFrame_none {s : State} (h : allowedFrame s = none) : joinFrame s = setView .busy s := by
  rw [joinFrame, h]

theorem exec_arbitrationLost {s : State} {sel : Selection} (hr : running s) (htx : s.ri.tx = .arbitrating sel) :
    exec .arbitrationLost s = .next (stopDriving s) := by
  have hf : loseArbitration s = stopDriving s := by rw [loseArbitration, htx]
  change execArbitrationLost s = _
  rw [execArbitrationLost, whenRunning_running hr (by rw [hf]; rfl), hf]

/-- Settles O37: at either beginning of a frame the station takes the frame that selection gives, where it may transmit. -/
theorem idleLineAndStartBitBeginFrames : Obligations.IdleLineAndStartBitBeginFrames := by
  refine ⟨fun s hr htx => ?_, fun s hr => ⟨fun hi htx sel h => ?_, fun hi htx h => ?_, fun sel htx => ?_⟩⟩
  · intro noSlot free starts
    have start {sel : Selection} (hfree : free) (h : selectFrame s = some sel) : starts sel :=
      exec_busIdle_starts hr htx ((allowedFrame_free hfree).trans h)
    have heads (hno : noSlot) (ho : s.ou.role = .owner) := (selectFrame_noSlot hno).trans (if_pos ho)
    refine ⟨fun hf hy => start hf (selectFrame_yield hy), fun hf hy ht => start hf (selectFrame_take hy ht),
      fun hf hy ht hs => start hf (selectFrame_status hy ht hs), fun hf hno ho hp => start hf ?_,
      fun hf hno ho hp hs => start hf ?_, fun hf hno ho hp hs hsp => start hf ?_, fun h => exec_busIdle_quiet hr htx ?_⟩
    · rw [heads hno ho, if_pos hp]
    · rw [heads hno ho, if_neg (not_not_intro hp), if_pos hs]
    · rw [heads hno ho, if_neg (not_not_intro hp), if_neg (not_not_intro hs), if_pos hsp]
    · rcases h with hcut | ⟨hno, hnone⟩
      · exact allowedFrame_cut hcut
      · have hsel : selectFrame s = none := by
          rw [selectFrame_noSlot hno]
          rcases hnone with ho | ⟨hp, hs, hsp⟩
          · rw [if_neg ho]
          · simp [hp, hs, hsp]
        by_cases hfree : free
        · exact (allowedFrame_free hfree).trans hsel
        · exact allowedFrame_cut hfree
  · rw [exec_startBit hr hi htx, joinFrame_some h]
  · rw [exec_startBit hr hi htx, joinFrame_none h]
    rfl
  · exact exec_arbitrationLost hr htx

end Sys2Proof.Machine

/-! # Proofs: frames that no unit takes (R104, R107 to R109) -/

namespace Sys2Proof.Machine

/-! ## Good frames before completion (R107, R108) -/

theorem receive_undispatched {good : Bool} {a : Address} {f : State → State} {s : State} (hgood : good = true)
    (ha : a ≠ s.loader.address) (hc : s.loader.state ≠ .complete) : receive good a f s = setView .busy s := by
  have hcomplete : (setView .busy s).loader.state ≠ .complete := hc
  have haddress : a ≠ (setView .busy s).loader.address := ha
  rw [receive, if_pos hgood, if_neg haddress, if_neg hcomplete]

theorem whenRunning_undispatched {good : Bool} {a : Address} {f : State → State} {s : State} (hr : running s)
    (hgood : good = true) (ha : a ≠ s.loader.address) (hc : s.loader.state ≠ .complete) :
    whenRunning (receive good a f) s = .next (setView .busy s) := by
  have heq : receive good a f s = setView .busy s := receive_undispatched hgood ha hc
  rw [whenRunning_running hr (by rw [heq]; rfl), heq]

/-! ## Bytes that fail the receive checks (R104, R107) -/

theorem exec_receiveError {bytes : List Byte} {s : State} (hr : running s) (h : checkFrame bytes = none) :
    exec (.receiveError bytes) s = .next (countReceiveError (setView .busy s)) := by
  have heq : errorEvent bytes s = countReceiveError (setView .busy s) := by rw [errorEvent, h]
  change execReceiveError bytes s = _
  rw [execReceiveError, whenRunning_running hr (by rw [heq]; rfl), heq]

theorem u8At_lt (b : List Byte) (i : Nat) : u8At b i < 256 := (byteAt b i).isLt

theorem acqOfCode_eq_none {n : Nat} : acqOfCode n = none ↔ 6 ≤ n := by
  match n with
  | 0 | 1 | 2 | 3 | 4 | 5 => simp [acqOfCode]
  | n + 6 => simp [acqOfCode]

theorem classOfCode_eq_none {n : Nat} (h : n < 4) : classOfCode n = none ↔ n = 0 := by
  match n with
  | 0 | 1 | 2 | 3 => simp [classOfCode]

theorem classCode_of_classOfCode {n : Nat} {c : ServiceClass} (h : classOfCode n = some c) : classCode c = n := by
  unfold classOfCode at h
  split at h <;> cases h <;> rfl

theorem crcGood_iff {b : List Byte} : crcGood b = true ↔ crc16 (b.take (b.length - 2)) = sigAt b (b.length - 2) := by
  simp [crcGood]

/-- A STATUS's header check fails for its class, its acquisition state or a field past its range (R107). -/
theorem parseStatus_eq_none {b : List Byte} : parseStatus b = none ↔ u8At b 0 / 64 ≠ 0
    ∨ (6 ≤ u8At b 3 / 32 ∨ 1000 < u16At b 4 ∨ 4095 < u16At b 6 ∨ 4095 < u16At b 8) := by
  unfold parseStatus
  split
  case h_1 h => simp [acqOfCode_eq_none.mp h]
  case h_2 acq h =>
    have hacq : ¬6 ≤ u8At b 3 / 32 := fun hc => by simp [acqOfCode_eq_none.mpr hc] at h
    simp [arbitrationClass]
    omega

theorem parseTake_eq_none {b : List Byte} : parseTake b = none ↔ u8At b 0 / 64 ≠ 0 ∨ 1000 < u16At b 3 := by
  unfold parseTake
  simp [arbitrationClass]
  omega

theorem parseYield_eq_none {b : List Byte} : parseYield b = none ↔ u8At b 0 / 64 ≠ 0 := by
  simp [parseYield, arbitrationClass]

/-- A PAYLOAD's header check fails for class code 0, or a class that its arbitration byte does not bear (R107). -/
theorem parsePayload_eq_none {b : List Byte} : parsePayload b = none ↔
    (u8At b 0 / 64 = 0 ∨ u8At b 2 / 2 % 4 ≠ u8At b 0 / 64) := by
  have hlt : arbitrationClass b < 4 := by have := u8At_lt b 0; unfold arbitrationClass; omega
  change _ ↔ (arbitrationClass b = 0 ∨ u8At b 2 / 2 % 4 ≠ arbitrationClass b)
  unfold parsePayload
  split
  case h_1 h => simp [(classOfCode_eq_none hlt).mp h]
  case h_2 cls h =>
    have hcls : arbitrationClass b ≠ 0 := fun hc => by simp [(classOfCode_eq_none hlt).mpr hc] at h
    rw [classCode_of_classOfCode h]
    simp [hcls]

/-- A frame of one type is checked for its length, its CRC, its reserved bits and then its header. -/
theorem checked_eq_none {α : Type} {n : Nat} {b : List Byte} {o : Option α} {g : α → Frame} :
    (if b.length = n ∧ crcGood b ∧ u8At b 0 % 4 = 0 then o.map g else none) = none ↔ b.length ≠ n
      ∨ crc16 (b.take (b.length - 2)) ≠ sigAt b (b.length - 2) ∨ u8At b 0 % 4 ≠ 0 ∨ o = none := by
  simp only [ne_eq, ← crcGood_iff]
  by_cases h : b.length = n ∧ crcGood b = true ∧ u8At b 0 % 4 = 0
  · simp [h]
  · rw [if_neg h]
    tauto

/-- The receive checks refuse just the bytes that R107 names. -/
theorem checkFrame_eq_none {b : List Byte} : checkFrame b = none ↔ frameFails b := by
  unfold checkFrame frameFails
  dsimp only
  by_cases hlen : b.length < 2
  · simp [hlen]
  by_cases h1 : u8At b 1 = 1
  · rw [if_neg hlen, if_pos h1, checked_eq_none, parseStatus_eq_none]
    simp [h1, hlen]
  by_cases h2 : u8At b 1 = 2
  · rw [if_neg hlen, if_neg h1, if_pos h2, checked_eq_none, parseTake_eq_none]
    simp [h2, hlen]
  by_cases h3 : u8At b 1 = 3
  · rw [if_neg hlen, if_neg h1, if_neg h2, if_pos h3, checked_eq_none, parseYield_eq_none]
    simp [h3, hlen]
  by_cases h4 : u8At b 1 = 4
  · rw [if_neg hlen, if_neg h1, if_neg h2, if_neg h3, if_pos h4, checked_eq_none, parsePayload_eq_none]
    simp [h4, hlen]
  · simp [hlen, h1, h2, h3, h4]

/-- Settles O43: a frame that no unit takes leaves the view, and where it failed a check the error count. -/
theorem undispatchedFramesOnlyCount : Obligations.UndispatchedFramesOnlyCount := by
  refine ⟨fun c sender s hr hc ha h => ?_, fun bytes s hr h => ?_, fun bytes => checkFrame_eq_none⟩
  · rcases h with ⟨f, rfl, hwf, rfl⟩ | ⟨f, rfl, hwf, rfl⟩ | ⟨f, rfl, rfl⟩ | ⟨h, rfl, hwf, rfl⟩
    · exact whenRunning_undispatched (f := dispatchStatus f) hr hwf ha hc
    · exact whenRunning_undispatched (f := dispatchTake f) hr hwf ha hc
    · exact whenRunning_undispatched (f := dispatchYield f) hr rfl ha hc
    · exact whenRunning_undispatched (f := dispatchPayload h) hr hwf ha hc
  · exact exec_receiveError hr (checkFrame_eq_none.mpr h)

end Sys2Proof.Machine

/-! # Proofs: an owner's answer to a rival's merit (R96, R99, R119, R126, R133, R135) -/

namespace Sys2Proof.Machine

/-! ## An owner yields (R96, R99, R135, R142) -/

/-- What a yield leaves of an owner. -/
theorem yieldWith_owner (a : Option Address) (r : YieldReason) {s : State} (h : s.ou.role = .owner) :
    (yieldWith a r s).ou = { s.ou with role := .yielding, challengeCount := 0 }
    ∧ (yieldWith a r s).sau = { s.sau with share := 0, credit := 0 }
    ∧ (yieldWith a r s).hbu = storesForRole .yielding s.hbu ∧ (yieldWith a r s).ri.statusSlot = true
    ∧ (yieldWith a r s).ri.yieldSlot = some { group := s.cfg.group, successor := a, reason := r }
    ∧ (yieldWith a r s).ri.busView = s.ri.busView ∧ sendsPayload (yieldWith a r s).ri.tx = false
    ∧ ∀ c, queueOf c (yieldWith a r s).ri = [] := by
  obtain ⟨hou, hsau, hhbu, hstatus⟩ := changeRole_spec .yielding (requestYield a r s)
  obtain ⟨hpayload, -, -, hyield, hview, hqueue⟩ := riserLeavesOwner_riser .yielding (setRole .yielding (requestYield a r s))
  have hri : (yieldWith a r s).ri = _ := changeRole_owner_ri (r := .yielding) (s := requestYield a r s) h
  refine ⟨hou, hsau, hhbu, hstatus, ?_, ?_, ?_, fun c => ?_⟩
  · rw [hri]; exact hyield
  · rw [hri]; exact hview
  · rw [hri]; exact hpayload
  · have hempty := hqueue c
    rw [if_pos rfl] at hempty
    rw [hri]
    cases c <;> exact hempty

/-! ## STATUS and TAKE heard (R117, R119, R126, R133) -/

theorem exec_statusReceived {f : StatusFrame} {s : State} (hr : running s) (hc : s.loader.state = .complete)
    (hwf : f.wf = true) (ha : f.sender ≠ s.loader.address) :
    exec (.statusReceived f) s = .next (dispatchStatus f (setView .busy s)) := by
  have hmoves := moves_receive (bs := .gau :: roleBlocks) (by decide) f.wf f.sender (f := dispatchStatus f)
    (fun s => (moves_dispatchStatus f s).mono (by decide)) s
  rw [← receive_dispatches (f := dispatchStatus f) hwf ha hc]
  exact whenRunning_moves hr (by decide) hmoves

theorem exec_takeReceived {f : TakeFrame} {s : State} (hr : running s) (hc : s.loader.state = .complete)
    (hwf : f.wf = true) (ha : f.sender ≠ s.loader.address) :
    exec (.takeReceived f) s = .next (dispatchTake f (setView .busy s)) := by
  have hmoves := moves_receive (bs := .gau :: roleBlocks) (by decide) f.wf f.sender (f := dispatchTake f)
    (fun s => (moves_dispatchTake f s).mono (by decide)) s
  rw [← receive_dispatches (f := dispatchTake f) hwf ha hc]
  exact whenRunning_moves hr (by decide) hmoves

/-- An owner answers a rival owner's STATUS by the duplicate-owner test (R133). -/
theorem dispatchStatus_owner {f : StatusFrame} {s : State} (hg : f.group = s.cfg.group) (hf : f.role = .owner)
    (hr : s.ou.role = .owner) : dispatchStatus f s =
      if losesDuplicate f s then yieldWith (some f.sender) .duplicate (mapPeers (viewAfterStatus f) s)
      else requestStatus (mapPeers (viewAfterStatus f) s) := by
  have hrole : (mapPeers (viewAfterStatus f) s).ou.role = .owner := hr
  have hpair : f.group = (mapPeers (viewAfterStatus f) s).cfg.group ∧ f.role = .owner := ⟨hg, hf⟩
  rw [dispatchStatus, if_pos hpair, answerOwner, hrole]
  rfl

/-- The view after a TAKE shows its sender TAKING (R119). -/
def takingShown (f : TakeFrame) : List Peer → List Peer := updatePeer f.sender fun p => { p with role := .taking }

theorem dispatchTake_owner {f : TakeFrame} {s : State} (hg : f.group = s.cfg.group) (hr : s.ou.role = .owner) :
    dispatchTake f s = answerTake f (mapPeers (takingShown f) s) :=
  if_pos ⟨hg, hr⟩

theorem dispatchTake_aside {f : TakeFrame} {s : State} (h : f.group ≠ s.cfg.group ∨ s.ou.role ≠ .owner) :
    dispatchTake f s = mapPeers (takingShown f) s :=
  if_neg fun ⟨hg, hr⟩ => h.elim (fun hn => hn hg) fun hn => hn hr

/-- Whatever a TAKE brings about, the peers are those of the view after it, and the view is kept. -/
theorem dispatchTake_view (f : TakeFrame) (s : State) : (dispatchTake f s).ou.peers = takingShown f s.ou.peers
    ∧ (dispatchTake f s).ri.busView = s.ri.busView := by
  by_cases h : f.group = s.cfg.group ∧ s.ou.role = .owner
  · rw [dispatchTake_owner h.1 h.2]
    unfold answerTake
    split
    · obtain ⟨hou, -, -, -, -, hview, -⟩ := yieldWith_owner (some f.sender) .challenged (s := mapPeers (takingShown f) s) h.2
      exact ⟨by rw [hou]; rfl, hview⟩
    · exact ⟨rfl, rfl⟩
  · rw [dispatchTake_aside (not_and_or.mp h)]
    exact ⟨rfl, rfl⟩

/-- Settles O45: an owner's answer to a rival's merit is a yield or a STATUS. -/
theorem ownerYieldsToGreaterMerit : Obligations.OwnerYieldsToGreaterMerit := by
  refine ⟨fun f s hr hc hwf ha hg hf ho => ⟨fun h => ?_, fun h => ?_⟩, fun f s hr hc hwf ha => ?_⟩
  · have hlose : losesDuplicate f (setView .busy s) = true := by simpa [losesDuplicate] using h
    refine ⟨_, exec_statusReceived hr hc hwf ha, ?_⟩
    rw [dispatchStatus_owner (s := setView .busy s) hg hf ho, if_pos hlose]
    obtain ⟨hou, hsau, hhbu, hstatus, hyield, -, hpayload, hqueue⟩ :=
      yieldWith_owner (some f.sender) .duplicate (s := mapPeers (viewAfterStatus f) (setView .busy s)) ho
    exact ⟨by rw [hou], by rw [hhbu]; rfl, hyield, hstatus, hqueue .premium, hqueue .standard, hqueue .spare, hpayload,
      by rw [hhbu]; rfl, by rw [hhbu]; rfl, by rw [hsau], by rw [hsau]⟩
  · have hkeep : ¬losesDuplicate f (setView .busy s) = true := by simpa [losesDuplicate] using h
    refine ⟨_, exec_statusReceived hr hc hwf ha, ?_⟩
    rw [dispatchStatus_owner (s := setView .busy s) hg hf ho, if_neg hkeep]
    exact ⟨ho, rfl, rfl, rfl, rfl⟩
  · intro peers
    obtain ⟨hpeers, hview⟩ := dispatchTake_view f (setView .busy s)
    refine ⟨_, exec_takeReceived hr hc hwf ha, hpeers, hview, fun h => ?_, fun hg ho hm => ?_, fun hg ho hm => ?_⟩
    · rw [dispatchTake_aside (s := setView .busy s) h]
      rfl
    · obtain ⟨hou, hsau, hhbu, -, hyield, -, -, hqueue⟩ :=
        yieldWith_owner (some f.sender) .challenged (s := mapPeers (takingShown f) (setView .busy s)) ho
      have hless : (mapPeers (takingShown f) (setView .busy s)).pru.smoothed < f.merit := hm
      rw [dispatchTake_owner (s := setView .busy s) hg ho, answerTake, if_pos hless]
      exact ⟨by rw [hou], hyield, hqueue .premium, hqueue .standard, hqueue .spare, by rw [hhbu]; rfl, by rw [hsau]⟩
    · have hless : ¬(mapPeers (takingShown f) (setView .busy s)).pru.smoothed < f.merit := Nat.not_lt.mpr hm
      rw [dispatchTake_owner (s := setView .busy s) hg ho, answerTake, if_neg hless]
      rfl

end Sys2Proof.Machine

/-! # Proofs: the cut-offs: SILENCE and address clashes (R93, R101, R108, R110, R112, R113, R137) -/

namespace Sys2Proof.Machine

/-! ## The role falls (R136, R137, R142) -/

theorem fallRole_falls {s : State} (h : s.ou.role = .owner ∨ s.ou.role = .taking ∨ s.ou.role = .yielding) :
    fallRole s = changeRole (restingRole s) (stopHandover s) := by
  rcases h with h | h | h <;> rw [fallRole, h]

theorem fallRole_stays {s : State} (h : s.ou.role = .standby ∨ s.ou.role = .absent) : fallRole s = clearChallenge s := by
  rcases h with h | h <;> rw [fallRole, h]

/-- A role falls or stays. -/
theorem falls_or_stays (r : Role) : (r = .owner ∨ r = .taking ∨ r = .yielding) ∨ (r = .standby ∨ r = .absent) := by
  cases r <;> decide

theorem restingRole_ne_yielding (s : State) : restingRole s ≠ .yielding := by
  unfold restingRole
  split <;> decide

/-- With nothing on the line a fall of the role leaves the riser interface but a STATUS request. -/
theorem fallRole_ri {s : State} (htx : s.ri.tx = .silent) :
    ∃ status, (fallRole s).ri = { s.ri with statusSlot := status } := by
  rcases falls_or_stays s.ou.role with h | h
  · rw [fallRole_falls h]
    exact ⟨true, changeRole_ri_silent (s := stopHandover s) htx (restingRole_ne_yielding s)⟩
  · rw [fallRole_stays h]
    exact ⟨s.ri.statusSlot, rfl⟩

theorem fallRole_peers (s : State) : (fallRole s).ou.peers = s.ou.peers := by
  rcases falls_or_stays s.ou.role with h | h
  · obtain ⟨hou, -⟩ := changeRole_spec (restingRole s) (stopHandover s)
    rw [fallRole_falls h, hou]
    rfl
  · rw [fallRole_stays h]
    rfl

/-- A fall of the role is what a cut-off leaves of it. -/
theorem fallRole_cutOff {s : State} (hstatus : s.ri.statusSlot = false) : cutOff s (fallRole s) := by
  refine ⟨fun h => ?_, fun h => ?_⟩
  · obtain ⟨hou, -, hhbu, hslot⟩ := changeRole_spec (restingRole s) (stopHandover s)
    rw [fallRole_falls h]
    refine ⟨by rw [hou]; rfl, hslot, ?_, fun hk => ?_, fun ht hh => ?_⟩
    · rw [hhbu, restingRole]
      split <;> rfl
    · rw [hou, hhbu, restingRole_kept hk]
      exact ⟨rfl, rfl, rfl, rfl⟩
    · rw [hou, hhbu, restingRole_below ht hh]
      exact ⟨rfl, rfl, rfl, rfl⟩
  · rw [fallRole_stays h]
    exact ⟨rfl, rfl, hstatus⟩

/-- A cut-off reads no more of the state before it than role, acquisition state and stores. -/
theorem cutOff_congr {s u t : State} (hou : u.ou = s.ou) (hacq : u.gau.acq = s.gau.acq) (hhbu : u.hbu = s.hbu)
    (h : cutOff u t) : cutOff s t := by
  simpa only [cutOff, hou, hacq, hhbu] using h

/-! ## The line is cut (R96, R101, R103, R110, R112) -/

/-- The end of a transmission leaves the causes, and takes the marks of a STATUS (R101). -/
theorem endTransmission_gau (s : State) : (endTransmission s).gau.causes = s.gau.causes
    ∧ ∀ f, s.ri.tx = .transmitting (.status f) → (endTransmission s).gau.carried = noCauses := by
  unfold endTransmission
  split
  case h_3 => exact ⟨rfl, fun _ _ => rfl⟩
  all_goals
    rename_i htx
    exact ⟨by simp, fun f hf => by rw [htx] at hf; cases hf⟩

theorem endTransmission_lastSent (s : State) : (endTransmission s).ri.lastSent = s.ri.lastSent := by
  unfold endTransmission
  split
  case h_6 h _ _ =>
    obtain ⟨-, -, -, -, -, hsent, -⟩ := countDrops_riser h.cls 1 s
    exact hsent
  all_goals rfl

/-- The cut line: slots and queues empty, the drops counted, and the last-sent signature kept. -/
theorem lineCut_ri (s : State) : (lineCut s).ri.statusSlot = false ∧ (lineCut s).ri.yieldSlot = none
    ∧ (lineCut s).ri.takeSlot = none ∧ (lineCut s).ri.lastSent = s.ri.lastSent ∧ (∀ c, queueOf c (lineCut s).ri = [])
    ∧ ∀ c, (dropsOf c (lineCut s).ri).count
      = min 255 ((dropsOf c s.ri).count + lineDrop c s.ri.tx + (queueOf c s.ri).length) := by
  obtain ⟨-, -, hstatus, hyield, htake, hsent, -⟩ := emptyQueues_riser (emptySlots (endTransmission s))
  exact ⟨hstatus, hyield, htake, hsent.trans (endTransmission_lastSent s), fun c => emptyQueues_queue c _,
    fun c => (silenced_line c s).2⟩

/-- What cutting the line leaves of the other blocks. -/
theorem lineCut_frame (s : State) : (lineCut s).ou = s.ou ∧ (lineCut s).hbu = s.hbu
    ∧ (lineCut s).silence = s.silence ∧ (lineCut s).gau = (endTransmission s).gau := by
  simp [lineCut]

/-! ## SILENCE (R112, R113, R137) -/

theorem silenceStation_eq (s : State) : silenceStation s = fallRole (lineCut s) := rfl

theorem exec_silenceAssert_running {s : State} (hr : running s) (hs : s.silence = false) :
    exec .silenceAssert s = .next (silenceStation { s with silence := true }) := by
  obtain ⟨hlow, hw⟩ := hr
  have hrest : (silenceStation { s with silence := true }).waiting = nothingWaits := (silenceStation_waiting _).trans hw
  rw [exec_silenceAssert hlow hs, takeWaiting_nothing hrest]

theorem exec_silenceRelease {s : State} (hr : running s) (hs : s.silence = true) :
    exec .silenceRelease s = .next (attempt { s with silence := false }) := by
  have hf : releaseSilence s = attempt { s with silence := false } := if_pos hs
  obtain ⟨hlow, -⟩ := id hr
  change execSilenceRelease s = _
  rw [execSilenceRelease, if_neg (by rw [hlow]; exact nofun), whenRunning_running hr (by rw [hf]; simp), hf]

/-- Settles O49: SILENCE cuts the line and lets the role fall, and its release is an attempt. -/
theorem silencePinCutsAndResumes : Obligations.SilencePinCutsAndResumes := by
  refine ⟨fun s hr hs => ⟨_, exec_silenceAssert_running hr hs, ?_⟩, fun s hr hs htx => ⟨fun hi hc sel hsel => ?_, fun h => ?_⟩⟩
  · let u : State := { s with silence := true }
    obtain ⟨hstatus, hyield, htake, hsent, hqueue, hdrops⟩ := lineCut_ri u
    obtain ⟨hou, hhbu, hsilence, hgau⟩ := lineCut_frame u
    obtain ⟨hcauses, hcarried⟩ := endTransmission_gau u
    obtain ⟨status, hri⟩ := fallRole_ri (lineCut_tx u)
    have hacq : (lineCut u).gau.acq = s.gau.acq := by rw [hgau, endTransmission_acq]
    have hfall : (fallRole (lineCut u)).gau = (endTransmission u).gau := by simpa using hgau
    rw [silenceStation_eq]
    refine ⟨by simpa using hsilence, by rw [hri]; exact lineCut_tx u, by rw [hri]; exact hyield, by rw [hri]; exact htake,
      by rw [hri]; exact hqueue .premium, by rw [hri]; exact hqueue .standard, by rw [hri]; exact hqueue .spare,
      by rw [hri]; exact hsent, by rw [hfall]; exact hcauses, by rw [hfall, endTransmission_acq],
      by rw [fallRole_peers, hou], fun c => ?_, fun f hf => by rw [hfall]; exact hcarried f hf,
      cutOff_congr hou hacq hhbu (fallRole_cutOff hstatus)⟩
    rw [hri]
    exact (show _ = (dropsOf c (lineCut u).ri).count by cases c <;> rfl).trans (hdrops c)
  · have hallowed : allowedFrame { s with silence := false } = some sel :=
      (allowedFrame_free (s := { s with silence := false }) ⟨rfl, hc⟩).trans hsel
    rw [exec_silenceRelease hr hs, attempt_starts (s := { s with silence := false }) hi htx hallowed]
  · have settled : attemptSettled { s with silence := false } := by
      intro hidle _
      rcases h with h | h | h
      · exact absurd (hidle.symm.trans h) (by decide)
      · exact allowedFrame_cut fun hfree => h hfree.2
      · unfold allowedFrame
        split
        · exact h
        · rfl
    rw [exec_silenceRelease hr hs, attempt_settled settled]

/-! ## Address clashes (R93, R108, R110) -/

/-- The line is cut and the hold begins (R110). -/
def clashHeld (s : State) : State :=
  refreshLamp { lineCut s with ri := { (lineCut s).ri with clashFlag := true, clashCarried := false, clashHold := some 2000 } }

theorem addressClash_eq (s : State) : addressClash s = fallRole (clashHeld s) := rfl

theorem clashHeld_ri (s : State) :
    (clashHeld s).ri = { (lineCut s).ri with clashFlag := true, clashCarried := false, clashHold := some 2000 } := by
  simp [clashHeld]

theorem clashHeld_frame (s : State) : (clashHeld s).ou = s.ou ∧ (clashHeld s).hbu = s.hbu
    ∧ (clashHeld s).gau = (endTransmission s).gau := by
  obtain ⟨hou, hhbu, -, hgau⟩ := lineCut_frame s
  simp [clashHeld, hou, hhbu, hgau]

/-- What an address clash makes of a station (R110). -/
def clashStopped (s t : State) : Prop :=
  t.ri.tx = .silent ∧ t.ri.clashFlag = true ∧ t.ri.clashCarried = false
    ∧ t.ri.clashHold = some 2000 ∧ t.ri.yieldSlot = none ∧ t.ri.takeSlot = none ∧ t.ri.premium = []
    ∧ t.ri.standard = [] ∧ t.ri.spare = [] ∧ t.ri.lastSent = s.ri.lastSent ∧ faultAsserted t = true
    ∧ t.gau.causes = s.gau.causes ∧ t.pru = s.pru ∧ t.ou.peers = s.ou.peers
    ∧ (∀ c, (dropsOf c t.ri).count = min 255 ((dropsOf c s.ri).count + lineDrop c s.ri.tx + (queueOf c s.ri).length))
    ∧ cutOff s t

theorem addressClash_stops (s : State) : clashStopped s (addressClash s) := by
  obtain ⟨hstatus, hyield, htake, hsent, hqueue, hdrops⟩ := lineCut_ri s
  obtain ⟨hou, hhbu, hgau⟩ := clashHeld_frame s
  obtain ⟨hcauses, -⟩ := endTransmission_gau s
  have hheld := clashHeld_ri s
  have htx : (clashHeld s).ri.tx = .silent := by rw [hheld]; exact lineCut_tx s
  obtain ⟨status, hfall⟩ := fallRole_ri htx
  have hri : (addressClash s).ri = { (lineCut s).ri with
      clashFlag := true, clashCarried := false, clashHold := some 2000, statusSlot := status } := by
    rw [addressClash_eq, hfall, hheld]
  have hfree : (clashHeld s).ri.statusSlot = false := by rw [hheld]; exact hstatus
  have hacq : (clashHeld s).gau.acq = s.gau.acq := by rw [hgau, endTransmission_acq]
  refine ⟨by rw [hri]; exact lineCut_tx s, by rw [hri], by rw [hri], by rw [hri], by rw [hri]; exact hyield,
    by rw [hri]; exact htake, by rw [hri]; exact hqueue .premium, by rw [hri]; exact hqueue .standard,
    by rw [hri]; exact hqueue .spare, by rw [hri]; exact hsent, by simp [faultAsserted, hri], ?_, ?_, ?_, fun c => ?_,
    cutOff_congr hou hacq hhbu (fallRole_cutOff hfree)⟩
  · have hgau' : (addressClash s).gau = (clashHeld s).gau := by simp [addressClash_eq]
    rw [hgau', hgau, hcauses]
  · simp
  · rw [addressClash_eq, fallRole_peers, hou]
  · rw [hri]
    exact (show _ = (dropsOf c (lineCut s).ri).count by cases c <;> rfl).trans (hdrops c)

/-- The bus view is no part of what stops a station. -/
theorem clashStopped_of_setView {v : BusView} {s t : State} (h : clashStopped (setView v s) t) : clashStopped s t := by
  have hline (c : ServiceClass) : dropsOf c (setView v s).ri = dropsOf c s.ri
      ∧ queueOf c (setView v s).ri = queueOf c s.ri := by
    cases c <;> exact ⟨rfl, rfl⟩
  obtain ⟨htx, hflag, hcarried, hhold, hyield, htake, hpremium, hstandard, hspare, hsent, hfault, hcauses, hpru, hpeers,
    hdrops, hcut⟩ := h
  refine ⟨htx, hflag, hcarried, hhold, hyield, htake, hpremium, hstandard, hspare, hsent, hfault, hcauses, hpru, hpeers,
    fun c => ?_, hcut⟩
  rw [hdrops, (hline c).1, (hline c).2]
  rfl

theorem exec_readbackMismatch {f : Frame} {s : State} (hr : running s) (htx : s.ri.tx = .transmitting f) :
    exec .readbackMismatch s = .next (addressClash s) := by
  have hf : mismatch s = addressClash s := by rw [mismatch, htx]
  have hm : Moves (.gau :: roleBlocks) s (mismatch s) := by rw [hf]; exact moves_addressClash s
  rw [← hf]
  exact whenRunning_moves hr (by decide) hm

theorem exec_ownAddressFrame {bytes : List Byte} {f : Frame} {s : State} (hr : running s) (hf : checkFrame bytes = some f)
    (ha : frameSender f = s.loader.address) :
    exec (.ownAddressFrame bytes) s = .next (ownAddressHeard (setView .busy s)) := by
  have heq : ownAddressEvent bytes s = ownAddressHeard (setView .busy s) := by
    simp only [ownAddressEvent, hf]
    exact if_pos ha
  rw [← heq]
  exact whenRunning_moves hr (by decide) (moves_ownAddressEvent bytes s)

theorem exec_statusReceived_ownAddress {f : StatusFrame} {s : State} (hr : running s) (hwf : f.wf = true)
    (ha : f.sender = s.loader.address) : exec (.statusReceived f) s = .next (ownAddressHeard (setView .busy s)) := by
  have heq : receive f.wf f.sender (dispatchStatus f) s = ownAddressHeard (setView .busy s) := by
    have haddress : f.sender = (setView .busy s).loader.address := ha
    rw [receive, if_pos hwf, if_pos haddress]
  have hmoves := moves_receive (bs := .gau :: roleBlocks) (by decide) f.wf f.sender (f := dispatchStatus f)
    (fun s => (moves_dispatchStatus f s).mono (by decide)) s
  rw [← heq]
  exact whenRunning_moves hr (by decide) hmoves

/-- From the first IDLE on a good frame of this station's address is an address clash (R108, R177). -/
theorem ownAddressHeard_stops {s : State} (h : s.ri.heardIdle = true) :
    clashStopped s (ownAddressHeard (setView .busy s)) := by
  have hclash : ownAddressHeard (setView .busy s) = addressClash (setView .busy s) := if_pos h
  rw [hclash]
  exact clashStopped_of_setView (addressClash_stops _)

/-- Settles O41: however the clash is found, the line is cut, the hold begins and the role falls. -/
theorem addressClashStopsStation : Obligations.AddressClashStopsStation := by
  refine ⟨fun c s hr h => ?_, fun bytes f s hr hidle hf ha => ?_⟩
  · rcases h with ⟨rfl, f, htx⟩ | ⟨hidle, ⟨bytes, f, rfl, hf, ha⟩ | ⟨f, rfl, hwf, ha⟩⟩
    · exact ⟨_, exec_readbackMismatch hr htx, addressClash_stops s⟩
    · exact ⟨_, exec_ownAddressFrame hr hf ha, ownAddressHeard_stops hidle⟩
    · exact ⟨_, exec_statusReceived_ownAddress hr hwf ha, ownAddressHeard_stops hidle⟩
  · have hview : ownAddressHeard (setView .busy s) = setView .busy s :=
      if_neg fun h => Bool.noConfusion (hidle.symm.trans h)
    rw [exec_ownAddressFrame hr hf ha, hview]
    rfl

end Sys2Proof.Machine

/-! # Proofs: every step keeps the peer view in order (R116 to R119, R193) -/

namespace Sys2Proof.Machine

/-! ## The view and what the frames heard do to it (R116 to R119) -/

/-- The view is in ascending order of address, and holds no entry of the address `own` (R116). -/
def viewSound (own : Address) (peers : List Peer) : Prop :=
  (peers.Pairwise fun a b => a.address < b.address) ∧ ∀ p ∈ peers, p.address ≠ own

theorem peersSound_iff {s : State} :
    peersSound s ↔ viewSound s.loader.address s.ou.peers ∧ (s.resetLow = true → s.ou.peers = []) := and_assoc.symm

/-- A TAKE, a YIELD and a PAYLOAD change fields of an entry, and not its address (R119). -/
theorem viewSound_updatePeer {own : Address} {peers : List Peer} (a : Address) {f : Peer → Peer}
    (hf : ∀ p, (f p).address = p.address) (h : viewSound own peers) : viewSound own (updatePeer a f peers) := by
  obtain ⟨hsorted, hown⟩ := h
  have haddress (p : Peer) : (if p.address = a then f p else p).address = p.address := by
    split
    · exact hf p
    · rfl
  refine ⟨List.pairwise_map.mpr ?_, fun q hq => ?_⟩
  · simpa only [haddress] using hsorted
  · obtain ⟨p, hp, rfl⟩ := List.mem_map.mp hq
    rw [haddress]
    exact hown p hp

theorem agePeer_address {limit : Nat} {p q : Peer} (h : agePeer limit p = some q) : q.address = p.address := by
  unfold agePeer at h
  split at h <;> cases h
  rfl

/-- Ageing takes entries out of the view and leaves the others in their places (R118). -/
theorem viewSound_agedView {own : Address} {s : State} (h : viewSound own s.ou.peers) : viewSound own (agedView s) := by
  obtain ⟨hsorted, hown⟩ := h
  refine ⟨List.Pairwise.filterMap _ (fun a b hab a' ha' b' hb' => ?_) hsorted, fun q hq => ?_⟩
  · rw [agePeer_address ha', agePeer_address hb']
    exact hab
  · obtain ⟨p, hp, hq⟩ := List.mem_filterMap.mp hq
    rw [agePeer_address hq]
    exact hown p hp

theorem mem_viewAfterStatus {f : StatusFrame} {peers : List Peer} {q : Peer} (h : q ∈ viewAfterStatus f peers) :
    q.address = f.sender ∨ q ∈ peers := by
  induction peers with
  | nil => exact .inl (by rw [List.mem_singleton.mp h]; rfl)
  | cons p rest ih =>
    unfold viewAfterStatus at h
    split at h
    · rcases List.mem_cons.mp h with rfl | h
      · exact .inl rfl
      · exact .inr h
    · split at h
      · rcases List.mem_cons.mp h with rfl | h
        · exact .inl rfl
        · exact .inr (List.mem_cons_of_mem _ h)
      · rcases List.mem_cons.mp h with rfl | h
        · exact .inr List.mem_cons_self
        · exact (ih h).imp_right (List.mem_cons_of_mem _)

/-- The entry of a STATUS takes its place in the order of addresses (R116, R117). -/
theorem viewAfterStatus_sorted (f : StatusFrame) {peers : List Peer} (h : peers.Pairwise fun a b => a.address < b.address) :
    (viewAfterStatus f peers).Pairwise fun a b => a.address < b.address := by
  induction peers with
  | nil => exact List.pairwise_singleton _ _
  | cons p rest ih =>
    obtain ⟨hp, hrest⟩ := List.pairwise_cons.mp h
    unfold viewAfterStatus
    split
    case isTrue hlt =>
      refine List.pairwise_cons.mpr ⟨fun q hq => ?_, h⟩
      rcases List.mem_cons.mp hq with rfl | hq
      · exact hlt
      · exact lt_trans hlt (hp q hq)
    case isFalse hge =>
      split
      case isTrue heq => exact List.pairwise_cons.mpr ⟨fun q hq => lt_of_eq_of_lt heq.symm (hp q hq), hrest⟩
      case isFalse hne =>
        refine List.pairwise_cons.mpr ⟨fun q hq => ?_, ih hrest⟩
        rcases mem_viewAfterStatus hq with hq | hq
        · rw [hq]
          exact lt_of_le_of_ne (not_lt.mp hge) hne
        · exact hp q hq

theorem viewSound_viewAfterStatus {own : Address} {f : StatusFrame} (hf : f.sender ≠ own) {peers : List Peer}
    (h : viewSound own peers) : viewSound own (viewAfterStatus f peers) :=
  ⟨viewAfterStatus_sorted f h.1, fun q hq => (mem_viewAfterStatus hq).elim (fun he => he ▸ hf) (h.2 q)⟩

/-- A view in order without the own address has at most 15 entries: 16 addresses less one (R116). -/
theorem viewSound_length {own : Address} {peers : List Peer} (h : viewSound own peers) : peers.length ≤ 15 := by
  obtain ⟨hsorted, hown⟩ := h
  have hnodup : (own :: peers.map Peer.address).Nodup := by
    refine List.nodup_cons.mpr ⟨fun hm => ?_, List.pairwise_map.mpr (hsorted.imp fun hab => ne_of_lt hab)⟩
    obtain ⟨p, hp, he⟩ := List.mem_map.mp hm
    exact hown p hp he
  have hcard := hnodup.length_le_card
  simpa [Nat.lt_succ_iff] using hcard

/-! ## What a run keeps of the view -/

/-- The station's address is the same in two states, and a view in order without it stays so. -/
structure KeepsView (s t : State) : Prop where
  address : t.loader.address = s.loader.address
  view : viewSound s.loader.address s.ou.peers → viewSound s.loader.address t.ou.peers

theorem KeepsView.same {s t : State} (h : t.loader.address = s.loader.address ∧ t.ou.peers = s.ou.peers) : KeepsView s t :=
  ⟨h.1, by rw [h.2]; exact id⟩

theorem KeepsView.refl (s : State) : KeepsView s s := .same ⟨rfl, rfl⟩

theorem KeepsView.trans {s t u : State} (h : KeepsView s t) (h' : KeepsView t u) : KeepsView s u :=
  ⟨h'.address.trans h.address, fun hs => by
    have hu := h'.view
    rw [h.address] at hu
    exact hu (h.view hs)⟩

theorem keepsView_ite {p : Prop} [Decidable p] {s t : State} (h : KeepsView s t) : KeepsView s (if p then t else s) := by
  split
  · exact h
  · exact .refl s

/-! ### Role changes (chapter 7) -/

theorem keepsView_changeRole (r : Role) (s : State) : KeepsView s (changeRole r s) := by
  obtain ⟨hou, -⟩ := changeRole_spec r s
  exact .same ⟨by simp, by rw [hou]⟩

theorem keepsView_enterOwner (a : Option Signature) (s : State) : KeepsView s (enterOwner a s) := by
  obtain ⟨hou, -⟩ := enterOwner_spec a s
  exact .same ⟨by simp, by rw [hou]⟩

theorem keepsView_yieldWith (a : Option Address) (r : YieldReason) (s : State) : KeepsView s (yieldWith a r s) :=
  (KeepsView.same (s := s) (t := requestYield a r s) ⟨rfl, rfl⟩).trans (keepsView_changeRole .yielding _)

theorem keepsView_giveUpTake (r : Role) (s : State) : KeepsView s (giveUpTake r s) :=
  (KeepsView.same (s := s) (t := stopHandover (withdrawTake s)) ⟨rfl, rfl⟩).trans (keepsView_changeRole r _)

theorem keepsView_endYield (s : State) : KeepsView s (endYield s) := keepsView_ite (keepsView_changeRole _ s)

theorem keepsView_fallRole (s : State) : KeepsView s (fallRole s) := .same ⟨by simp, fallRole_peers s⟩

theorem keepsView_addressClash (s : State) : KeepsView s (addressClash s) := by
  obtain ⟨hou, -⟩ := clashHeld_frame s
  have held : KeepsView s (clashHeld s) := .same ⟨by simp [clashHeld, lineCut], by rw [hou]⟩
  rw [addressClash_eq]
  exact held.trans (keepsView_fallRole _)

theorem keepsView_roleAtAcqChange (new : AcqState) (s : State) : KeepsView s (roleAtAcqChange new s) := by
  unfold roleAtAcqChange
  split
  case h_1 => exact keepsView_ite (keepsView_changeRole _ s)
  case h_2 => exact keepsView_ite (keepsView_changeRole _ s)
  case h_3 => split; exacts [.refl s, keepsView_giveUpTake _ s]
  case h_4 =>
    split
    · exact keepsView_yieldWith _ _ s
    · split
      · split; exacts [.refl s, keepsView_yieldWith _ _ s]
      · exact .refl s
  case h_5 => exact .refl s

/-- What moves the acquisition side leaves the view (R121, R131, R132). -/
theorem Turns.keepsView {s t : State} (h : Turns s t) : KeepsView s t := by
  induction h with
  | refl => exact .refl s
  | tail _ hturn ih =>
    refine ih.trans ?_
    cases hturn with
    | aside hsame =>
      obtain ⟨-, -, hloader, -, hou, -⟩ := hsame
      exact .same ⟨by rw [hloader], by rw [hou]⟩
    | role new => exact keepsView_roleAtAcqChange new _

/-! ### Attempts, records and what waits (R91, R57 to R63, R77 to R81, R148, R170) -/

theorem keepsView_attempt (s : State) : KeepsView s (attempt s) := .same (by simp)

theorem keepsView_settleRecord (s : State) : KeepsView s (settleRecord s) := .same (by simp)

theorem keepsView_settleBurst (s : State) : KeepsView s (settleBurst s) := by
  have reported : Turns s (reportCause .errorBurst { s with waiting := { s.waiting with burst := false } }) :=
    (turns_reportCause .errorBurst _).after sameBusSide_rfl
  exact keepsView_ite reported.keepsView

theorem keepsView_takeWaiting (s : State) : KeepsView s (takeWaiting s) := by
  unfold takeWaiting
  split
  · exact .refl s
  · exact ((keepsView_settleRecord s).trans (keepsView_settleBurst _)).trans (keepsView_attempt _)

theorem keepsView_handOn (later : Bool) (r : RingEntry) (s : State) : KeepsView s (handOn later r s) := by
  unfold handOn
  split
  · exact .refl s
  · split
    · exact .same ⟨rfl, rfl⟩
    · exact .same (by simp)

theorem keepsView_lookup (later : Bool) (r : PacketRecord) (s : State) : KeepsView s (lookup later r s) := by
  unfold lookup
  split
  · exact .refl s
  · split
    · exact .refl s
    · split
      · exact .same (by simp)
      · have marked : KeepsView s { s with services := markUse r.inputId s.services } := .same ⟨rfl, rfl⟩
        exact marked.trans (keepsView_handOn later _ _)

theorem keepsView_countError (errored : Bool) (s : State) : KeepsView s (countError errored s) := by
  unfold countError
  dsimp only
  split <;> exact .same ⟨rfl, rfl⟩

theorem keepsView_takePacket (p : Packet) (u later : Bool) (s : State) : KeepsView s (takePacket p u later s) := by
  have tallied (e : Bool) : KeepsView s (tallied e s) := .same ⟨rfl, rfl⟩
  unfold takePacket
  split
  case h_1 => exact ((tallied _).trans (keepsView_lookup later _ _)).trans (keepsView_countError _ _)
  case h_2 => exact keepsView_countError _ s
  all_goals exact .refl s

theorem keepsView_packetEvent (p : Packet) (report : PacketReport) (s : State) : KeepsView s (packetEvent p report s) := by
  have taken := (keepsView_settleRecord s).trans (keepsView_takePacket p report.uncorrectable report.recordLater _)
  unfold packetEvent
  dsimp only
  split
  · exact taken
  · exact taken.trans (keepsView_settleBurst _)

/-! ### The configuration fetch (R178 to R187) -/

theorem keepsView_structuralFault (s : State) : KeepsView s (structuralFault s) := .same (by simp [structuralFault])

theorem keepsView_walkTo (a : Nat) (s : State) : KeepsView s (walkTo a s) := by
  have set : KeepsView s (released s.loader.kept s) := .same ⟨rfl, rfl⟩
  unfold walkTo endWalk
  split
  · split
    · rw [completeFetch_eq]
      exact set.trans (turns_enterGain _).keepsView
    · exact keepsView_structuralFault s
  · split
    · exact .same (by simp)
    · exact keepsView_structuralFault s

theorem keepsView_takeHeader (data : List Byte) (s : State) : KeepsView s (takeHeader data s) := by
  have sized : KeepsView s { s with loader := { s.loader with imageLength := u24At data 2 } } := .same ⟨rfl, rfl⟩
  unfold takeHeader
  split
  · exact sized.trans (keepsView_walkTo _ _)
  · exact keepsView_structuralFault s

theorem keepsView_takeRecordRead (a : Nat) (data : List Byte) (s : State) : KeepsView s (takeRecordRead a data s) := by
  unfold takeRecordRead keepRecord
  dsimp only
  split
  · exact keepsView_structuralFault s
  case h_2 r _ =>
    have kept : KeepsView s { s with loader := { s.loader with
        recordCount := s.loader.recordCount + 1, kept := s.loader.kept ++ [r] } } := .same ⟨rfl, rfl⟩
    split
    · exact kept.trans (keepsView_structuralFault _)
    · exact kept.trans (keepsView_walkTo _ _)

theorem keepsView_boundaryBefore (b : Bool) (s : State) : KeepsView s (boundaryBefore b s) :=
  keepsView_ite ((turns_boundaryEvent true s).keepsView.trans (keepsView_attempt _))

theorem keepsView_recordReadEvent (data : List Byte) (s : State) : KeepsView s (recordReadEvent data s) := by
  unfold recordReadEvent
  split
  case h_1 => exact keepsView_ite (keepsView_takeRecordRead _ data s)
  all_goals exact .refl s

end Sys2Proof.Machine

/-! # Proofs: frames, timers and the view; every step (R116 to R119, R193) -/

namespace Sys2Proof.Machine

/-! ### Frames heard and sent (R93, R100, R107 to R109, R117, R119) -/

theorem keepsView_mapPeers {f : List Peer → List Peer} {s : State}
    (hf : viewSound s.loader.address s.ou.peers → viewSound s.loader.address (f s.ou.peers)) : KeepsView s (mapPeers f s) :=
  ⟨rfl, hf⟩

theorem keepsView_updatePeer (a : Address) {f : Peer → Peer} (hf : ∀ p, (f p).address = p.address) (s : State) :
    KeepsView s (mapPeers (updatePeer a f) s) :=
  keepsView_mapPeers (viewSound_updatePeer a hf)

theorem keepsView_requestStatus (s : State) : KeepsView s (requestStatus s) := .same ⟨rfl, rfl⟩

theorem keepsView_answerOwner (f : StatusFrame) (s : State) : KeepsView s (answerOwner f s) := by
  unfold answerOwner
  split
  case h_1 => exact keepsView_ite (keepsView_giveUpTake _ s)
  case h_2 => split; exacts [keepsView_yieldWith _ _ s, keepsView_requestStatus s]
  all_goals exact .refl s

/-- A STATUS of another station joins the view (R116, R117). -/
theorem keepsView_dispatchStatus {f : StatusFrame} {s : State} (ha : f.sender ≠ s.loader.address) :
    KeepsView s (dispatchStatus f s) := by
  have joined : KeepsView s (mapPeers (viewAfterStatus f) s) := keepsView_mapPeers (viewSound_viewAfterStatus ha)
  unfold dispatchStatus
  dsimp only
  split
  · exact joined.trans (keepsView_answerOwner f _)
  · exact joined

theorem keepsView_dispatchTake (f : TakeFrame) (s : State) : KeepsView s (dispatchTake f s) := by
  have shown := keepsView_updatePeer f.sender (f := fun p => { p with role := .taking }) (fun _ => rfl) s
  unfold dispatchTake answerTake
  dsimp only
  split
  · split
    · exact shown.trans (keepsView_yieldWith _ _ _)
    · exact shown.trans (keepsView_requestStatus _)
  · exact shown

theorem keepsView_answerYield (f : YieldFrame) (s : State) : KeepsView s (answerYield f s) := by
  have owns (p : Prop) [Decidable p] : KeepsView s (if p then enterOwner f.lastSignature s else s) :=
    keepsView_ite (keepsView_enterOwner _ s)
  unfold answerYield takerHearsYield standbyHearsYield
  split
  case h_1 =>
    split
    · exact owns _
    · split
      · exact owns _
      · exact keepsView_giveUpTake _ s
  case h_2 => exact owns _
  all_goals exact .refl s

theorem keepsView_dispatchYield (f : YieldFrame) (s : State) : KeepsView s (dispatchYield f s) := by
  have shown := keepsView_updatePeer f.sender (f := fun p => { p with role := roleAfterYield f.reason p }) (fun _ => rfl) s
  unfold dispatchYield
  dsimp only
  split
  · exact shown.trans (keepsView_answerYield f _)
  · exact shown

theorem keepsView_dispatchPayload (h : PayloadHeader) (s : State) : KeepsView s (dispatchPayload h s) := by
  by_cases hg : h.group = s.cfg.group
  · rw [dispatchPayload_own hg]
    exact ⟨rfl, viewSound_updatePeer h.sender (f := fun p => { p with lastSignature := some h.signature }) fun _ => rfl⟩
  · rw [dispatchPayload_other hg]
    exact .same ⟨rfl, rfl⟩

theorem keepsView_setView (v : BusView) (s : State) : KeepsView s (setView v s) := .same ⟨rfl, rfl⟩

theorem keepsView_ownAddressHeard (s : State) : KeepsView s (ownAddressHeard s) := keepsView_ite (keepsView_addressClash s)

/-- A frame reaches its dispatch only from another address (R107 to R109). -/
theorem keepsView_receive (good : Bool) (a : Address) {f : State → State}
    (hf : ∀ s, a ≠ s.loader.address → KeepsView s (f s)) (s : State) : KeepsView s (receive good a f s) := by
  have busy := keepsView_setView .busy s
  unfold receive
  dsimp only
  split
  · split
    · exact busy.trans (keepsView_ownAddressHeard _)
    · exact busy.trans (keepsView_ite (hf _ ‹_›))
  · exact busy.trans (.same ⟨rfl, rfl⟩)

theorem keepsView_ownAddressEvent (bytes : List Byte) (s : State) : KeepsView s (ownAddressEvent bytes s) := by
  unfold ownAddressEvent
  split
  · exact .refl s
  · exact keepsView_ite ((keepsView_setView .busy s).trans (keepsView_ownAddressHeard _))

theorem keepsView_mismatch (s : State) : KeepsView s (mismatch s) := by
  unfold mismatch
  split
  · exact keepsView_addressClash s
  all_goals exact .refl s

theorem keepsView_completeFrame (s : State) : KeepsView s (completeFrame s) := by
  have stopped : KeepsView s (stopDriving s) := .same ⟨rfl, rfl⟩
  unfold completeFrame frameSentEffect
  split
  case h_1 =>
    refine stopped.trans ?_
    split
    · exact .same ⟨rfl, rfl⟩
    · exact keepsView_ite (.same ⟨rfl, rfl⟩)
    · exact keepsView_endYield _
    · dsimp only
      split <;> exact .same (by simp)
  all_goals exact .refl s

/-! ### Timers and pins (R112 to R115, R118, R130) -/

/-- A report expiry ages the view, and leaves it so (R115, R118). -/
theorem keepsView_takeExpiry (b : Bool) (s : State) : KeepsView s (takeExpiry b s) := by
  obtain ⟨-, -, -, -, -, -, hloader, -⟩ := takeExpiry_period b s
  obtain ⟨hpeers, -⟩ := takeExpiry_view b s
  exact ⟨by rw [hloader], by rw [hpeers]; exact viewSound_agedView⟩

theorem keepsView_handoverDecision (s : State) : KeepsView s (handoverDecision s) := by
  unfold handoverDecision
  split
  · split
    · exact keepsView_giveUpTake .standby s
    · exact keepsView_ite (keepsView_enterOwner _ s)
  · exact .refl s

theorem keepsView_assertSilence (s : State) : KeepsView s (assertSilence s) := by
  obtain ⟨hou, -⟩ := lineCut_frame { s with silence := true }
  have cut : KeepsView s (lineCut { s with silence := true }) := .same ⟨by simp [lineCut], by rw [hou]⟩
  unfold assertSilence
  split
  · exact .refl s
  · exact cut.trans (keepsView_fallRole _)

/-! ### Every command -/

/-- A gated command keeps of the view what its effect keeps. -/
theorem keepsView_of_gated {f : State → State} {s t : State} (h : whenRunning f s = .next t) (hf : KeepsView s (f s)) :
    KeepsView s t := by
  unfold whenRunning at h
  split at h <;> cases h
  · exact .refl s
  · exact hf.trans (keepsView_takeWaiting _)

/-- A command that reaches neither the loader nor the ownership unit. -/
theorem keepsView_of_apart {c : Instr} {s t : State} (hreset : c ≠ .reset) (hl : .loader ∉ blocksOf c)
    (ho : .ou ∉ blocksOf c) (h : exec c s = .next t) : KeepsView s t := by
  obtain ⟨u, v, hu, hm, ht⟩ := exec_brings hreset h
  have begun : KeepsView s u := by
    cases hu with
    | plain => exact .refl s
    | silence => exact .same ⟨rfl, rfl⟩
    | leave _ hc => subst hc; exact absurd (by simp [blocksOf]) hl
    | fetch _ _ hb => exact absurd hb hl
    | complete _ hc => rcases hc with ⟨d, rfl⟩ | ⟨d, rfl⟩ <;> exact absurd (by simp [blocksOf]) hl
    | report => exact .same ⟨rfl, rfl⟩
  have hsame := hm.changesOnly
  have hloader : v.loader = u.loader := hsame.same hl
  have hou : v.ou = u.ou := hsame.same ho
  have moved := begun.trans (.same (t := v) ⟨by rw [hloader], by rw [hou]⟩)
  rcases ht with rfl | ⟨-, rfl⟩
  · exact moved
  · exact moved.trans (keepsView_takeWaiting _)

/-- Every command but RESET and its end keeps the station's address and a view in order. -/
theorem exec_keepsView {c : Instr} {s t : State} (hreset : c ≠ .reset ∧ ∀ straps, c ≠ .resetEnd straps)
    (h : exec c s = .next t) : KeepsView s t := by
  cases c with
  | reset => exact absurd rfl hreset.1
  | resetEnd straps => exact absurd rfl (hreset.2 straps)
  | resetEnableCommand =>
    exact keepsView_of_gated (show execResetEnableCommand s = .next t from h) (keepsView_ite (.same (by simp)))
  | resetCommand => exact keepsView_of_gated (show execResetCommand s = .next t from h) (keepsView_ite (.same (by simp)))
  | recoveryWaitEnd =>
    exact keepsView_of_gated (show execRecoveryWaitEnd s = .next t from h) (keepsView_ite (.same (by simp)))
  | headerRead d => exact keepsView_of_gated (show execHeaderRead d s = .next t from h) (keepsView_ite (keepsView_takeHeader d s))
  | recordRead d => exact keepsView_of_gated (show execRecordRead d s = .next t from h) (keepsView_recordReadEvent d s)
  | retryTimerExpiry =>
    exact keepsView_of_gated (show execRetryTimerExpiry s = .next t from h) (keepsView_ite (.same ⟨rfl, rfl⟩))
  | sample d =>
    have settled := (turns_settleSamples s).keepsView.trans (keepsView_attempt _)
    exact keepsView_of_gated (show execSample d s = .next t from h) (settled.trans (turns_takeSample d _).keepsView)
  | gainMeasurement =>
    exact keepsView_of_gated (show execGainMeasurement s = .next t from h)
      ((turns_measureIfDue s).keepsView.trans (keepsView_attempt _))
  | trialEnd => exact keepsView_of_gated (show execTrialEnd s = .next t from h) (turns_endTrialIfDue s).keepsView
  | symbolBoundary b =>
    exact keepsView_of_gated (show execSymbolBoundary b s = .next t from h)
      ((turns_boundaryEvent b s).keepsView.trans (keepsView_attempt _))
  | framePass => exact keepsView_of_gated (show execFramePass s = .next t from h) (keepsView_ite (turns_takePass s).keepsView)
  | holdLimit =>
    exact keepsView_of_gated (show execHoldLimit s = .next t from h)
      (keepsView_ite ((turns_takeHoldLimit s).keepsView.trans (keepsView_attempt _)))
  | merMeasurement mer b =>
    have before := keepsView_boundaryBefore b s
    exact keepsView_of_gated (show execMerMeasurement mer b s = .next t from h)
      (before.trans (keepsView_ite (.same ⟨rfl, rfl⟩)))
  | syncFound b =>
    exact keepsView_of_gated (show execSyncFound b s = .next t from h)
      ((keepsView_boundaryBefore b s).trans (turns_takeSyncFound _).keepsView)
  | frameCheck r =>
    exact keepsView_of_gated (show execFrameCheck r s = .next t from h)
      ((turns_takeFrameCheck r s).keepsView.trans (keepsView_attempt _))
  | packetDecoded p r =>
    change execPacketDecoded p r s = .next t at h
    unfold execPacketDecoded at h
    split at h <;> cases h
    · exact .refl s
    · exact (keepsView_packetEvent p r s).trans (keepsView_attempt _)
  | reportExpiry b =>
    exact keepsView_of_gated (show execReportExpiry b s = .next t from h)
      (keepsView_ite ((keepsView_takeExpiry b s).trans (keepsView_attempt _)))
  | handoverTimerExpiry =>
    have stopped : KeepsView s (stopHandover s) := .same ⟨rfl, rfl⟩
    exact keepsView_of_gated (show execHandoverTimerExpiry s = .next t from h)
      (keepsView_ite ((stopped.trans (keepsView_handoverDecision _)).trans (keepsView_attempt _)))
  | readbackMismatch => exact keepsView_of_gated (show execReadbackMismatch s = .next t from h) (keepsView_mismatch s)
  | frameSent => exact keepsView_of_gated (show execFrameSent s = .next t from h) (keepsView_completeFrame s)
  | statusReceived f =>
    exact keepsView_of_gated (show execStatusReceived f s = .next t from h)
      (keepsView_receive _ _ (fun _ ha => keepsView_dispatchStatus ha) s)
  | takeReceived f =>
    exact keepsView_of_gated (show execTakeReceived f s = .next t from h)
      (keepsView_receive _ _ (fun u _ => keepsView_dispatchTake f u) s)
  | yieldReceived f =>
    exact keepsView_of_gated (show execYieldReceived f s = .next t from h)
      (keepsView_receive _ _ (fun u _ => keepsView_dispatchYield f u) s)
  | payloadReceived f =>
    exact keepsView_of_gated (show execPayloadReceived f s = .next t from h)
      (keepsView_receive _ _ (fun u _ => keepsView_dispatchPayload f u) s)
  | ownAddressFrame b =>
    exact keepsView_of_gated (show execOwnAddressFrame b s = .next t from h) (keepsView_ownAddressEvent b s)
  | silenceAssert =>
    change execSilenceAssert s = .next t at h
    unfold execSilenceAssert at h
    split at h
    · cases h
      exact .same ⟨rfl, rfl⟩
    · exact keepsView_of_gated h (keepsView_assertSilence s)
  | runEnd | overlongRun | predictionMiss | outputPeriodEnd | profileUpdate | admissionTick | suspensionHoldEnd
  | addressClashHoldEnd | busIdle | startBit | arbitrationWon | arbitrationLost | receiveError | silenceRelease
  | handoverFlashEnd => exact keepsView_of_apart hreset.1 (by simp [blocksOf]) (by simp [blocksOf]) h

/-- With RESET low a command changes nothing but the SILENCE level, or ends the reset (R193). -/
theorem exec_low_cases {c : Instr} {s t : State} (hc : c ≠ .reset) (hlow : s.resetLow = true) (h : exec c s = .next t) :
    (∃ level, t = { s with silence := level }) ∨ ∃ straps, t = leaveReset straps s := by
  have gated {f : State → State} (h : whenRunning f s = .next t) : ∃ level, t = { s with silence := level } := by
    rw [whenRunning_low hlow] at h
    cases h
    exact ⟨_, rfl⟩
  unfold exec at h
  cases c
  case reset => exact absurd rfl hc
  case resetEnd straps =>
    rcases exec_resetEnd_next h with rfl | ⟨-, rfl⟩
    · exact .inl ⟨_, rfl⟩
    · exact .inr ⟨straps, rfl⟩
  case packetDecoded p r =>
    simp only [execPacketDecoded, hlow, if_true] at h
    cases h
    exact .inl ⟨_, rfl⟩
  case silenceAssert => exact .inl ⟨true, exec_silenceAssert_low hlow h⟩
  case silenceRelease =>
    rw [execSilenceRelease, if_pos hlow] at h
    cases h
    exact .inl ⟨false, rfl⟩
  all_goals exact .inl (gated h)

theorem peersSound_of_empty {s : State} (h : s.ou.peers = []) : peersSound s := by
  simp [peersSound, h]

/-- With RESET low the view is empty and stays so; with RESET high every command keeps it in order (R116, R193). -/
theorem exec_keeps_peersSound {c : Instr} {s t : State} (hs : peersSound s) (h : exec c s = .next t) : peersSound t := by
  obtain ⟨hview, hempty⟩ := peersSound_iff.mp hs
  by_cases hreset : c = .reset
  · subst hreset
    rw [exec_reset_next h]
    exact peersSound_of_empty rfl
  cases hlow : s.resetLow with
  | true =>
    rcases exec_low_cases hreset hlow h with ⟨level, rfl⟩ | ⟨straps, rfl⟩
    · exact peersSound_of_empty (hempty hlow)
    · exact peersSound_of_empty (hempty hlow)
  | false =>
    by_cases hend : ∃ straps, c = .resetEnd straps
    · obtain ⟨straps, rfl⟩ := hend
      rcases exec_resetEnd_next h with rfl | ⟨hlow', -⟩
      · exact hs
      · exact absurd (hlow.symm.trans hlow') (by decide)
    · have hcommand : c ≠ .reset ∧ ∀ straps, c ≠ .resetEnd straps := ⟨hreset, fun straps hc => hend ⟨straps, hc⟩⟩
      have kept := exec_keepsView hcommand h
      have hhigh : t.resetLow = false := (exec_keeps hcommand (fun _ => hlow) h).low.trans hlow
      refine peersSound_iff.mpr ⟨?_, fun ht => absurd (hhigh.symm.trans ht) (by decide)⟩
      rw [kept.address]
      exact kept.view hview

/-- Settles O55: no command takes the view out of order, and 15 addresses are left for it. -/
theorem stepKeepsPeerViewOrdered : Obligations.StepKeepsPeerViewOrdered := by
  refine ⟨fun s t hs h => ?_, fun s hs => viewSound_length (peersSound_iff.mp hs).1⟩
  rcases step_next h with rfl | ⟨c, rest, hc⟩
  · exact hs
  · exact exec_keeps_peersSound (s := { s with pending := rest }) hs hc

end Sys2Proof.Machine

/-! # Proofs: STATUS frames heard (R116, R117, R129) -/

namespace Sys2Proof.Machine

/-! ## The sender's entry (R116, R117) -/

theorem peerOf_cons (a : Address) (p : Peer) (rest : List Peer) :
    peerOf a (p :: rest) = if p.address = a then some p else peerOf a rest := by
  by_cases h : p.address = a <;> simp [peerOf, h]

theorem peerOf_eq_none {a : Address} {peers : List Peer} : peerOf a peers = none ↔ ∀ p ∈ peers, p.address ≠ a := by
  simp [peerOf]

/-- A STATUS leaves every entry but its sender's. -/
theorem peerOf_viewAfterStatus_ne {a : Address} {f : StatusFrame} (h : a ≠ f.sender) (peers : List Peer) :
    peerOf a (viewAfterStatus f peers) = peerOf a peers := by
  have hnew (old : Option Peer) : (peerFromStatus f old).address ≠ a := h.symm
  induction peers with
  | nil => rw [viewAfterStatus, peerOf_cons, if_neg (hnew none)]
  | cons p rest ih =>
    unfold viewAfterStatus
    split
    case isTrue => rw [peerOf_cons a (peerFromStatus f none), if_neg (hnew none)]
    case isFalse =>
      split
      case isTrue heq =>
        have hp : p.address ≠ a := fun he => h (he.symm.trans heq)
        rw [peerOf_cons, peerOf_cons, if_neg (hnew (some p)), if_neg hp]
      case isFalse => rw [peerOf_cons, peerOf_cons, ih]

/-- In a view in order the sender's entry is the one the STATUS makes of the entry before it. -/
theorem peerOf_viewAfterStatus_sender (f : StatusFrame) {peers : List Peer}
    (hsorted : peers.Pairwise fun a b => a.address < b.address) :
    peerOf f.sender (viewAfterStatus f peers) = some (peerFromStatus f (peerOf f.sender peers)) := by
  have hnew (old : Option Peer) : (peerFromStatus f old).address = f.sender := rfl
  induction peers with
  | nil => rw [viewAfterStatus, peerOf_cons, if_pos (hnew none)]; rfl
  | cons p rest ih =>
    obtain ⟨hp, hrest⟩ := List.pairwise_cons.mp hsorted
    unfold viewAfterStatus
    split
    case isTrue hlt =>
      have hnone : peerOf f.sender (p :: rest) = none := peerOf_eq_none.mpr fun q hq => by
        rcases List.mem_cons.mp hq with rfl | hq
        · exact ne_of_gt hlt
        · exact ne_of_gt (lt_trans hlt (hp q hq))
      rw [peerOf_cons f.sender (peerFromStatus f none), if_pos (hnew none), hnone]
    case isFalse =>
      split
      case isTrue heq => rw [peerOf_cons, peerOf_cons, if_pos (hnew (some p)), if_pos heq]
      case isFalse hne => rw [peerOf_cons, peerOf_cons, if_neg hne, if_neg hne, ih hrest]

/-! ## What a rival OWNER's STATUS brings about (R129, R133) -/

/-- A taker is beaten by an owner's merit at or above its own (R129). -/
def takeBeaten (f : StatusFrame) (s : State) : Prop := s.ou.role = .taking ∧ s.pru.smoothed ≤ f.merit

theorem answerOwner_cases (f : StatusFrame) (s : State) :
    (takeBeaten f s ∧ answerOwner f s = giveUpTake .standby s)
    ∨ (s.ou.role = .owner ∧ (answerOwner f s = yieldWith (some f.sender) .duplicate s ∨ answerOwner f s = requestStatus s))
    ∨ (¬takeBeaten f s ∧ s.ou.role ≠ .owner ∧ answerOwner f s = s) := by
  unfold answerOwner takeBeaten
  split
  case h_1 hr =>
    split
    case isTrue hm => exact .inl ⟨⟨hr, hm⟩, rfl⟩
    case isFalse hm => exact .inr (.inr ⟨fun h => hm h.2, by rw [hr]; decide, rfl⟩)
  case h_2 hr =>
    split
    · exact .inr (.inl ⟨hr, .inl rfl⟩)
    · exact .inr (.inl ⟨hr, .inr rfl⟩)
  all_goals
    rename_i hr
    exact .inr (.inr ⟨fun h => absurd (hr.symm.trans h.1) (by decide), by rw [hr]; decide, rfl⟩)

theorem giveUpTake_busView {r : Role} {s : State} (hr : s.ou.role = .taking) :
    (giveUpTake r s).ri.busView = s.ri.busView := by
  have hri : (giveUpTake r s).ri = _ :=
    changeRole_ri (r := r) (s := stopHandover (withdrawTake s)) (by simp [hr])
  rw [hri]
  rfl

/-- The answer to a rival OWNER leaves the view and what is seen of the bus. -/
theorem answerOwner_view (f : StatusFrame) (s : State) :
    (answerOwner f s).ou.peers = s.ou.peers ∧ (answerOwner f s).ri.busView = s.ri.busView := by
  rcases answerOwner_cases f s with ⟨⟨hr, -⟩, h⟩ | ⟨hr, h | h⟩ | ⟨-, -, h⟩ <;> rw [h]
  · obtain ⟨hou, -⟩ := giveUpTake_standby hr
    exact ⟨by rw [hou], giveUpTake_busView hr⟩
  · obtain ⟨hou, -, -, -, -, hview, -⟩ := yieldWith_owner (some f.sender) .duplicate hr
    exact ⟨by rw [hou], hview⟩
  · exact ⟨rfl, rfl⟩
  · exact ⟨rfl, rfl⟩

/-- Whatever a STATUS brings about, the peers are those of the view after it, and what is seen of the bus is kept. -/
theorem dispatchStatus_view (f : StatusFrame) (s : State) :
    (dispatchStatus f s).ou.peers = viewAfterStatus f s.ou.peers ∧ (dispatchStatus f s).ri.busView = s.ri.busView := by
  unfold dispatchStatus
  dsimp only
  split
  · exact answerOwner_view f (mapPeers (viewAfterStatus f) s)
  · exact ⟨rfl, rfl⟩

/-- A STATUS that announces no rival OWNER, or one that this station need not answer, changes the view alone. -/
theorem dispatchStatus_aside {f : StatusFrame} {s : State}
    (h : ¬(f.group = s.cfg.group ∧ f.role = .owner ∧ (s.ou.role = .owner ∨ takeBeaten f s))) :
    dispatchStatus f s = mapPeers (viewAfterStatus f) s := by
  unfold dispatchStatus
  dsimp only
  split
  case isTrue hrival =>
    rcases answerOwner_cases f (mapPeers (viewAfterStatus f) s) with ⟨hbeaten, -⟩ | ⟨howner, -⟩ | ⟨-, -, he⟩
    · exact absurd ⟨hrival.1, hrival.2, .inr hbeaten⟩ h
    · exact absurd ⟨hrival.1, hrival.2, .inl howner⟩ h
    · exact he
  case isFalse => rfl

/-- A taker gives up its take to a rival OWNER of merit at or above its own (R129). -/
theorem dispatchStatus_endsTake {f : StatusFrame} {s : State} (hg : f.group = s.cfg.group) (hf : f.role = .owner)
    (hr : s.ou.role = .taking) (hm : s.pru.smoothed ≤ f.merit) :
    dispatchStatus f s = giveUpTake .standby (mapPeers (viewAfterStatus f) s) := by
  have hrival : f.group = (mapPeers (viewAfterStatus f) s).cfg.group ∧ f.role = .owner := ⟨hg, hf⟩
  have hrole : (mapPeers (viewAfterStatus f) s).ou.role = .taking := hr
  rw [dispatchStatus, if_pos hrival, answerOwner, hrole]
  exact if_pos hm

/-- Settles O44: the view takes the sender's entry, and only an owner or a beaten taker does more. -/
theorem statusUpdatesPeerView : Obligations.StatusUpdatesPeerView := by
  intro f s hr hc hwf ha hsorted
  have ⟨(hpeers : _ = viewAfterStatus f s.ou.peers), hview⟩ := dispatchStatus_view f (setView .busy s)
  refine ⟨_, exec_statusReceived hr hc hwf ha, hview, fun h => ?_, fun hg hf ht hm => ?_, fun a hne => ?_, ?sender⟩
  · rw [dispatchStatus_aside (s := setView .busy s) h]
    rfl
  · obtain ⟨hou, hhbu, htake, hstatus⟩ := giveUpTake_standby (s := mapPeers (viewAfterStatus f) (setView .busy s)) ht
    rw [dispatchStatus_endsTake (s := setView .busy s) hg hf ht hm, hou, hhbu]
    exact ⟨rfl, htake, hstatus, rfl, rfl⟩
  · rw [hpeers, peerOf_viewAfterStatus_ne hne]
  case sender =>
    refine ⟨_, by rw [hpeers, peerOf_viewAfterStatus_sender f hsorted], rfl, rfl, rfl, rfl, rfl, rfl, rfl, rfl,
      fun hnone => ?_, fun q hq => ?_⟩
    · rw [hnone]
      rfl
    · rw [hq]
      rfl

end Sys2Proof.Machine

/-! # Proofs: YIELD frames heard (R119, R122, R128, R134, R137, R151, R155) -/

namespace Sys2Proof.Machine

/-! ## The entry into OWNER on an anchor (R122, R151, R155) -/

theorem admitEntry_lastSent (e : QueueEntry) (s : State) : (admitEntry e s).ri.lastSent = s.ri.lastSent := by
  obtain ⟨-, -, -, -, -, hsent, -⟩ := withQueue_riser e.cls (queueOf e.cls s.ri ++ [e]) s.ri
  exact hsent

theorem countDrop_lastSent (c : ServiceClass) (s : State) : (countDrop c s).ri.lastSent = s.ri.lastSent := by
  obtain ⟨-, -, -, -, -, hsent, -⟩ := countDrops_riser c 1 s
  exact hsent

theorem offerEntries_lastSent (n : Nat) (s : State) : (offerEntries n s).ri.lastSent = s.ri.lastSent := by
  induction n generalizing s with
  | zero => rfl
  | succ n ih =>
    unfold offerEntries
    split
    · rfl
    · split
      · exact (ih _).trans (admitEntry_lastSent _ _)
      · exact (ih _).trans (countDrop_lastSent _ _)
      · rfl

/-- A drain offer queues packets and sends none. -/
theorem drainOffer_lastSent (s : State) : (drainOffer s).ri.lastSent = s.ri.lastSent := by
  unfold drainOffer
  dsimp only
  split
  · rw [goLive_eq]
    exact offerEntries_lastSent 2 s
  · exact offerEntries_lastSent 2 s

theorem enterOwner_lastSent (a : Option Signature) (s : State) : (enterOwner a s).ri.lastSent = none := by
  have hnew : (newOwner a s).ri.lastSent = none := by simp [newOwner]
  have hoffer : (firstOffer (newOwner a s)).ri.lastSent = none := by
    unfold firstOffer
    split
    · exact (drainOffer_lastSent _).trans hnew
    · exact hnew
  rw [enterOwner_newOwner]
  simpa [requestStatus] using hoffer

/-- A resolution leaves a phase of an owner and no last released signature. -/
theorem resolveAnchor_owns (a : Option Signature) (h : HoldBack) :
    (resolveAnchor a h).phase ≠ .none ∧ (resolveAnchor a h).lastReleased = none := by
  have live (p : Prop) [Decidable p] : (if p then Phase.live else .drain) ≠ .none := by split <;> exact nofun
  unfold resolveAnchor resolveToLive
  split
  · exact ⟨nofun, rfl⟩
  · split
    · exact ⟨live _, rfl⟩
    · split
      · exact ⟨live _, rfl⟩
      · split <;> exact ⟨nofun, rfl⟩

/-- So does the drain offer that follows it. -/
theorem ownsFrom.owns {a : Option Signature} {before after : HoldBack} (h : ownsFrom a before after) :
    after.phase ≠ .none ∧ after.lastReleased = none := by
  obtain ⟨hphase, hreleased⟩ := resolveAnchor_owns a before
  obtain ⟨hdone, hdrain⟩ := h
  by_cases hd : (resolveAnchor a before).phase = .drain
  · obtain ⟨gone, -, -, hafter⟩ := hdrain hd
    rw [hafter]
    exact ⟨by dsimp only; split <;> exact nofun, hreleased⟩
  · rw [hdone hd]
    exact ⟨hphase, hreleased⟩

theorem keepThroughLast_getLast {α : Type} [DecidableEq α] {a : α} {l : List α} (h : a ∈ l) :
    (keepThroughLast (fun x => decide (x = a)) l).getLast? = some a := by
  have hne : l.reverse.dropWhile (fun x => !decide (x = a)) ≠ [] := fun hnil => by
    have := List.dropWhile_eq_nil_iff.mp hnil a (List.mem_reverse.mpr h)
    simp at this
  have hhead := List.head_dropWhile_not (fun x => !decide (x = a)) hne
  rw [keepThroughLast, List.getLast?_reverse, List.head?_eq_some_head hne]
  simpa using hhead

/-- With no anchor both stores are emptied (R151). -/
theorem ownsFrom.unanchored {before after : HoldBack} (h : ownsFrom none before after) :
    after.phase = .live ∧ after.ring = [] ∧ after.lead = [] := by
  rw [h.1 nofun]
  exact ⟨rfl, rfl, rfl⟩

section
variable {a : Signature} {before after : HoldBack} (h : ownsFrom (some a) before after) (hring : before.ring = [])
  (hreleased : before.lastReleased ≠ some a)
include h hring hreleased

/-- While the ring is empty an anchor in the lead list becomes its newest entry, and CATCH_UP begins (R151). -/
theorem ownsFrom.leads (ha : a ∈ before.lead) :
    after.phase = .catchUp ∧ after.catchUpCount = 0 ∧ after.lead.getLast? = some a := by
  have hresolved : resolveAnchor (some a) before = { before with
      lead := keepThroughLast (fun g => decide (g = a)) before.lead, lastReleased := none, catchUpCount := 0,
      phase := .catchUp } := by
    simp [resolveAnchor, hreleased, hring, dropThrough, ha]
  have hafter := h.1 (by rw [hresolved]; exact nofun)
  rw [hafter, hresolved]
  exact ⟨rfl, rfl, keepThroughLast_getLast ha⟩

/-- While the ring is empty an anchor held nowhere gives LIVE (R151). -/
theorem ownsFrom.unheld (ha : a ∉ before.lead) : after.phase = .live ∧ after.lead = [] := by
  have hresolved : resolveAnchor (some a) before = resolveToLive before := by
    simp [resolveAnchor, hreleased, hring, dropThrough, ha]
  have hafter := h.1 (by rw [hresolved]; exact nofun)
  rw [hafter, hresolved]
  exact ⟨rfl, rfl⟩

end

/-! ## YIELD heard (R119, R128, R134) -/

theorem exec_yieldReceived {f : YieldFrame} {s : State} (hr : running s) (hc : s.loader.state = .complete)
    (ha : f.sender ≠ s.loader.address) : exec (.yieldReceived f) s = .next (dispatchYield f (setView .busy s)) := by
  have hmoves := moves_receive (bs := .gau :: roleBlocks) (by decide) true f.sender (f := dispatchYield f)
    (fun s => (moves_dispatchYield f s).mono (by decide)) s
  rw [← receive_dispatches (f := dispatchYield f) rfl ha hc]
  exact whenRunning_moves hr (by decide) hmoves

/-- The view after a YIELD shows its sender in the role it fell to (R119). -/
def yieldShown (f : YieldFrame) : List Peer → List Peer :=
  updatePeer f.sender fun p => { p with role := roleAfterYield f.reason p }

/-- The station answers a YIELD of its group with an entry into OWNER (R128, R134). -/
def yieldOwns (f : YieldFrame) (s : State) : Prop :=
  (s.ou.role = .taking ∧ (f.successor = some s.loader.address ∨ f.successor = none))
    ∨ (s.ou.role = .standby ∧ f.successor = some s.loader.address ∧ s.gau.acq = .track)

theorem answerYield_owns {f : YieldFrame} {s : State} (hmay : mayTransmit s = true) (h : yieldOwns f s) :
    answerYield f s = enterOwner f.lastSignature s := by
  rcases h with ⟨hr, hf | hf⟩ | ⟨hr, hf, ht⟩
  · simp [answerYield, takerHearsYield, hr, hf, hmay]
  · simp [answerYield, takerHearsYield, hr, hf, hmay]
  · simp [answerYield, standbyHearsYield, hr, hf, ht, hmay]

/-- A YIELD that names another ends a take (R128). -/
theorem answerYield_endsTake {f : YieldFrame} {s : State} {a : Address} (hf : f.successor = some a)
    (ha : a ≠ s.loader.address) (hr : s.ou.role = .taking) : answerYield f s = giveUpTake .standby s := by
  simp [answerYield, takerHearsYield, hr, hf, ha]

/-- The other roles, and a standby that is not named, or not free to own, let a YIELD pass (R134, R137). -/
theorem answerYield_aside {f : YieldFrame} {s : State}
    (h : s.ou.role = .absent ∨ s.ou.role = .owner ∨ s.ou.role = .yielding
      ∨ (s.ou.role = .standby ∧ ¬(f.successor = some s.loader.address ∧ s.gau.acq = .track ∧ mayTransmit s = true))) :
    answerYield f s = s := by
  rcases h with hr | hr | hr | ⟨hr, hn⟩ <;> rw [answerYield, hr]
  exact if_neg hn

theorem dispatchYield_other {f : YieldFrame} {s : State} (hg : f.group ≠ s.cfg.group) :
    dispatchYield f s = mapPeers (yieldShown f) s := if_neg hg

theorem dispatchYield_own {f : YieldFrame} {s : State} (hg : f.group = s.cfg.group) :
    dispatchYield f s = answerYield f (mapPeers (yieldShown f) s) := if_pos hg

/-- Settles O46: the view is changed, and a YIELD of the own group makes an owner, ends a take, or passes. -/
theorem yieldPassesOwnership : Obligations.YieldPassesOwnership := by
  intro f s hr hc ha peers viewed named
  have hexec := exec_yieldReceived hr hc ha
  have hviewed : mapPeers (yieldShown f) (setView .busy s) = viewed := rfl
  have hown (hg : f.group = s.cfg.group) : dispatchYield f (setView .busy s) = answerYield f viewed :=
    dispatchYield_own (s := setView .busy s) hg
  refine ⟨fun h => ?aside, fun hg hs hclash howns => ⟨_, hexec, ?owns⟩, fun a hg hf hne ht => ⟨_, hexec, ?ends⟩⟩
  case aside =>
    rw [hexec]
    by_cases hg : f.group = s.cfg.group
    · rw [hown hg, answerYield_aside]
      simpa only [mayTransmit_iff] using h.resolve_left (not_not_intro hg)
    · rw [dispatchYield_other (s := setView .busy s) hg, hviewed]
  case owns =>
    obtain ⟨hou, hstatus⟩ := enterOwner_spec f.lastSignature viewed
    have hstores : ownsFrom f.lastSignature s.hbu (enterOwner f.lastSignature viewed).hbu := enterOwner_hbu _ viewed
    obtain ⟨hphase, hreleased⟩ := hstores.owns
    rw [hown hg, answerYield_owns (s := viewed) (mayTransmit_iff.mpr ⟨hs, hclash⟩) howns, hou]
    refine ⟨rfl, hphase, rfl, hreleased, enterOwner_lastSent _ _, enterOwner_takeSlot _ _, rfl, hstatus, hstores,
      fun hnone => ?_, fun a hf hring hne => ?_⟩
    · rw [hnone] at hstores ⊢
      exact hstores.unanchored
    · rw [hf] at hstores ⊢
      exact ⟨hstores.leads hring hne, hstores.unheld hring hne⟩
  case ends =>
    obtain ⟨hou, hhbu, htake, -⟩ := giveUpTake_standby (s := viewed) ht
    rw [hown hg, answerYield_endsTake (s := viewed) hf hne ht, hou, hhbu]
    exact ⟨rfl, htake, rfl, rfl, rfl, rfl⟩

end Sys2Proof.Machine

/-! # Proofs: the role follows the acquisition state (R120, R121, R127, R131, R132, R135, R136, R142) -/

namespace Sys2Proof.Machine

/-! ## The best peer (R124, R125) -/

theorem betterPeer_iff {a b : Peer} :
    betterPeer a b = true ↔ b.merit < a.merit ∨ (a.merit = b.merit ∧ a.address < b.address) := decide_eq_true_iff

theorem betterPeer_asymm (a b : Peer) (h : betterPeer a b = true) : betterPeer b a = false := by
  simp only [betterPeer, decide_eq_true_eq, decide_eq_false_iff_not, Fin.lt_def] at h ⊢
  omega

theorem betterPeer_trans (a b c : Peer) (hab : betterPeer b a = false) (hbc : betterPeer c b = false) :
    betterPeer c a = false := by
  simp only [betterPeer, decide_eq_false_iff_not, Fin.lt_def] at hab hbc ⊢
  omega

section
variable {q : Peer → Prop} {sel : Peer → Bool} {peers : List Peer} (hsel : ∀ p, sel p = true ↔ q p)
include hsel

/-- The peer found is the best one, up to what two entries of one merit and address may differ in. -/
theorem bestOf_bestPeer {best : Peer} (h : bestPeer q peers best) :
    ∃ p, bestOf betterPeer (peers.filter sel) = some p ∧ p.merit = best.merit ∧ p.address = best.address := by
  obtain ⟨hmem, hq, hbest⟩ := h
  have hin : best ∈ peers.filter sel := List.mem_filter.mpr ⟨hmem, (hsel best).mpr hq⟩
  cases hp : bestOf betterPeer (peers.filter sel) with
  | none => exact absurd (bestOf_eq_none.mp hp ▸ hin) List.not_mem_nil
  | some p =>
    have hunbeaten : ¬(p.merit < best.merit ∨ (best.merit = p.merit ∧ best.address < p.address)) := by
      rw [← betterPeer_iff, Bool.not_eq_true]
      exact bestOf_spec betterPeer_asymm betterPeer_trans hp best hin
    obtain ⟨hpmem, hpsel⟩ := List.mem_filter.mp (bestOf_mem hp)
    have hbeaten := hbest p hpmem ((hsel p).mp hpsel)
    simp only [Fin.lt_def, Fin.le_def] at hunbeaten hbeaten
    exact ⟨p, rfl, by omega, Fin.ext (by omega)⟩

theorem bestOf_no_peer (h : ∀ p ∈ peers, ¬q p) : bestOf betterPeer (peers.filter sel) = none := by
  refine bestOf_eq_none.mpr (List.filter_eq_nil_iff.mpr fun p hp hs => ?_)
  exact h p hp ((hsel p).mp hs)

end

theorem qualifies_iff {s : State} (p : Peer) :
    (isRival s.cfg.group p && qualifies s.cfg.meritFloor p) = true ↔ qualifyingRival s p := by
  simp [isRival, qualifies, qualifyingRival, and_assoc]

theorem bestQualifying_eq (s : State) : bestQualifying s =
    bestOf betterPeer (s.ou.peers.filter fun p => isRival s.cfg.group p && qualifies s.cfg.meritFloor p) := by
  rw [bestQualifying, rivals, List.filter_filter]
  simp only [Bool.and_comm]

theorem bestQualifying_some {s : State} {best : Peer} (h : bestPeer (qualifyingRival s) s.ou.peers best) :
    ∃ p, bestQualifying s = some p ∧ p.address = best.address := by
  obtain ⟨p, hp, -, haddress⟩ := bestOf_bestPeer qualifies_iff h
  exact ⟨p, (bestQualifying_eq s).trans hp, haddress⟩

theorem bestQualifying_none {s : State} (h : ∀ p ∈ s.ou.peers, ¬qualifyingRival s p) : bestQualifying s = none :=
  (bestQualifying_eq s).trans (bestOf_no_peer qualifies_iff h)

/-! ## What an attempt and the lamp leave of a state (R91, R189) -/

/-- Of the role's blocks, the acquisition state and the riser interface's slots and queues, the second state shows what the first
does: only the line and the lamp may differ. -/
structure Shows (u t : State) : Prop where
  acq : t.gau.acq = u.gau.acq
  ou : t.ou = u.ou
  hbu : t.hbu = u.hbu
  sau : t.sau = u.sau
  ri : t.ri = { u.ri with busView := t.ri.busView, tx := t.ri.tx }

theorem shows_attempt (s : State) : Shows s (attempt s) := by
  refine ⟨by simp, by simp, by simp, by simp, ?_⟩
  rcases attempt_cases s with h | ⟨sel, -, -, -, h⟩ <;> rw [h]

theorem shows_attempt_refreshLamp (s : State) : Shows s (attempt (refreshLamp s)) := by
  have hri := (shows_attempt (refreshLamp s)).ri
  exact ⟨by simp, by simp, by simp, by simp, by rw [hri]; simp⟩

/-! ## The role's move, role by role (R121, R127, R131, R132, R135, R142) -/

/-- A take given up: the timer stops and no TAKE is left pending (R121, R127). -/
theorem giveUpTake_taking {r : Role} {s : State} (hrole : s.ou.role = .taking) :
    (giveUpTake r s).ou = { s.ou with role := r, challengeCount := 0, handoverTimer := none }
    ∧ (giveUpTake r s).hbu = storesForRole r s.hbu ∧ (giveUpTake r s).ri.takeSlot = none
    ∧ (giveUpTake r s).ri.statusSlot = true := by
  obtain ⟨hou, -, hhbu, hstatus⟩ := changeRole_spec r (stopHandover (withdrawTake s))
  have hri : (giveUpTake r s).ri = _ := changeRole_ri (r := r) (s := stopHandover (withdrawTake s)) (by simp [hrole])
  exact ⟨hou, hhbu, by rw [hri]; rfl, hstatus⟩

section
variable {new : AcqState} {s : State}

theorem roleAtAcqChange_toStandby (hr : s.ou.role = .absent) : roleAtAcqChange .track s = changeRole .standby s := by
  simp [roleAtAcqChange, hr]

theorem roleAtAcqChange_standby (hr : s.ou.role = .standby) :
    roleAtAcqChange new s = if belowHold new then changeRole .absent s else s := by
  simp [roleAtAcqChange, hr]

theorem roleAtAcqChange_taking (hr : s.ou.role = .taking) (hn : new ≠ .track) :
    roleAtAcqChange new s = giveUpTake (restingRole s) s := by
  simp [roleAtAcqChange, hr, hn]

theorem roleAtAcqChange_yielding (hr : s.ou.role = .yielding) : roleAtAcqChange new s = s := by
  simp [roleAtAcqChange, hr]

theorem roleAtAcqChange_owner_below (hr : s.ou.role = .owner) (hn : belowHold new = true) :
    roleAtAcqChange new s = yieldWith none .lockLost s := by
  simp [roleAtAcqChange, hr, hn]

theorem roleAtAcqChange_owner_yields (hr : s.ou.role = .owner) {p : Peer} (hp : bestQualifying s = some p) :
    roleAtAcqChange .hold s = yieldWith (some p.address) .lockLost s := by
  simp [roleAtAcqChange, hr, hp, belowHold]

theorem roleAtAcqChange_owner_stays (hr : s.ou.role = .owner) (hp : bestQualifying s = none) :
    roleAtAcqChange .hold s = s := by
  simp [roleAtAcqChange, hr, hp, belowHold]

end

/-! ## A command that enters an acquisition state (R1, R121) -/

/-- What the role's move reads and changes is the same in two states. -/
def sameRoleSide (s v : State) : Prop := v.cfg = s.cfg ∧ v.ri = s.ri ∧ v.ou = s.ou ∧ v.hbu = s.hbu ∧ v.sau = s.sau

/-- The state `t` shows the role's move at the entry of station `s` into the acquisition state `new`. -/
def enters (new : AcqState) (s t : State) : Prop :=
  ∃ v, v.gau.acq = new ∧ sameRoleSide s v ∧ Shows (roleAtAcqChange new v) t

/-- The acquisition state set, before the role moves (R1, R73). -/
def acqSet (new : AcqState) (s : State) : State :=
  { s with gau := { s.gau with acq := new }, pru := if s.gau.acq = .track then leaveTrack s.pru else s.pru }

theorem enters_changeAcq {new : AcqState} {s u : State} (hn : u.gau.acq ≠ new) (h : sameRoleSide s u) :
    enters new s (attempt (changeAcq new u)) := by
  have hmoved : changeAcq new u = refreshLamp (roleAtAcqChange new (acqSet new u)) := if_neg hn
  rw [hmoved]
  exact ⟨acqSet new u, rfl, h, shows_attempt_refreshLamp _⟩

section
variable {new : AcqState} {s t : State} (h : enters new s t)
include h

theorem enters.acq : t.gau.acq = new := by
  obtain ⟨v, hacq, -, hshows⟩ := h
  rw [hshows.acq]
  simpa using hacq

/-- An absent station comes to STANDBY with TRACK alone (R121). -/
theorem enters.toStandby (hn : new = .track) (hr : s.ou.role = .absent) :
    t.ou = { s.ou with role := .standby, challengeCount := 0 } ∧ t.ri.statusSlot = true := by
  subst hn
  obtain ⟨v, -, ⟨-, -, hou, -, -⟩, hshows⟩ := h
  rw [← hou] at hr ⊢
  rw [roleAtAcqChange_toStandby hr] at hshows
  obtain ⟨hrole, -, -, hstatus⟩ := changeRole_spec .standby v
  rw [hshows.ou, hshows.ri]
  exact ⟨hrole, hstatus⟩

/-- These move no further: an absent station but into TRACK, a standby that stays in HOLD or above, and a yielding one. -/
theorem enters.stays (hr : (s.ou.role = .absent ∧ new ≠ .track) ∨ (s.ou.role = .standby ∧ belowHold new = false)
    ∨ s.ou.role = .yielding) : t.ou = s.ou ∧ t.hbu = s.hbu := by
  obtain ⟨v, -, ⟨-, -, hou, hhbu, -⟩, hshows⟩ := h
  rw [← hou] at hr
  have hstays : roleAtAcqChange new v = v := by
    rcases hr with ⟨hr, hn⟩ | ⟨hr, hn⟩ | hr
    · exact roleAtAcqChange_absent hr hn
    · rw [roleAtAcqChange_standby hr, if_neg (by simp [hn])]
    · exact roleAtAcqChange_yielding hr
  rw [hstays] at hshows
  exact ⟨hshows.ou.trans hou, hshows.hbu.trans hhbu⟩

/-- A standby falls to ABSENT below HOLD (R121, R142). -/
theorem enters.toAbsent (hn : belowHold new = true) (hr : s.ou.role = .standby) :
    t.ou = { s.ou with role := .absent, challengeCount := 0 } ∧ t.hbu = storesForRole .absent s.hbu
      ∧ t.ri.statusSlot = true := by
  obtain ⟨v, -, ⟨-, -, hou, hhbu, -⟩, hshows⟩ := h
  rw [← hou] at hr ⊢
  rw [roleAtAcqChange_standby hr, if_pos hn] at hshows
  obtain ⟨hrole, -, hstores, hstatus⟩ := changeRole_spec .absent v
  rw [hshows.ou, hshows.hbu, hshows.ri, ← hhbu]
  exact ⟨hrole, hstores, hstatus⟩

/-- A take ends outside TRACK: in STANDBY in HOLD, in ABSENT below it (R121, R127). -/
theorem enters.endsTake (hn : new ≠ .track) (hr : s.ou.role = .taking) :
    let r : Role := if belowHold new then .absent else .standby
    t.ou = { s.ou with role := r, challengeCount := 0, handoverTimer := none } ∧ t.hbu = storesForRole r s.hbu
      ∧ t.ri.takeSlot = none ∧ t.ri.statusSlot = true := by
  obtain ⟨v, hacq, ⟨-, -, hou, hhbu, -⟩, hshows⟩ := h
  rw [← hou] at hr ⊢
  rw [roleAtAcqChange_taking hr hn, restingRole, hacq] at hshows
  obtain ⟨hrole, hstores, htake, hstatus⟩ := giveUpTake_taking (r := if belowHold new then .absent else .standby) hr
  rw [hshows.ou, hshows.hbu, hshows.ri, ← hhbu]
  exact ⟨hrole, hstores, htake, hstatus⟩

end

/-- What an owner's yield to `a` leaves, as a state shows it (R96, R99, R135, R142). -/
def yielded (a : Option Address) (r : YieldReason) (s t : State) : Prop :=
  t.ou = { s.ou with role := .yielding, challengeCount := 0 } ∧ t.sau = { s.sau with share := 0, credit := 0 }
    ∧ t.hbu = storesForRole .yielding s.hbu ∧ t.ri.statusSlot = true
    ∧ t.ri.yieldSlot = some { group := s.cfg.group, successor := a, reason := r }
    ∧ t.ri.premium = [] ∧ t.ri.standard = [] ∧ t.ri.spare = []

theorem yielded_of_shows {a : Option Address} {r : YieldReason} {s t : State} (hr : s.ou.role = .owner)
    (h : Shows (yieldWith a r s) t) : yielded a r s t := by
  obtain ⟨hou, hsau, hhbu, hstatus, hyield, -, -, hqueue⟩ := yieldWith_owner a r hr
  rw [yielded, h.ou, h.sau, h.hbu, h.ri]
  exact ⟨hou, hsau, hhbu, hstatus, hyield, hqueue .premium, hqueue .standard, hqueue .spare⟩

theorem yielded_congr {a : Option Address} {r : YieldReason} {s v t : State} (hv : sameRoleSide s v) (h : yielded a r v t) :
    yielded a r s t := by
  obtain ⟨hcfg, -, hou, hhbu, hsau⟩ := hv
  simpa only [yielded, hcfg, hou, hhbu, hsau] using h

theorem qualifyingRival_congr {s v : State} (hv : sameRoleSide s v) : qualifyingRival v = qualifyingRival s := by
  obtain ⟨hcfg, -⟩ := hv
  funext p
  simp only [qualifyingRival, hcfg]

section
variable {s t : State} (hr : s.ou.role = .owner)
include hr

/-- Below HOLD an owner yields to no successor (R132). -/
theorem enters.yields_below {new : AcqState} (h : enters new s t) (hn : belowHold new = true) :
    yielded none .lockLost s t := by
  obtain ⟨v, -, hv, hshows⟩ := h
  obtain ⟨-, -, hou, -⟩ := id hv
  rw [← hou] at hr
  rw [roleAtAcqChange_owner_below hr hn] at hshows
  exact yielded_congr hv (yielded_of_shows hr hshows)

/-- In HOLD an owner yields to the best qualifying rival (R131). -/
theorem enters.yields_hold (h : enters .hold s t) {best : Peer} (hbest : bestPeer (qualifyingRival s) s.ou.peers best) :
    yielded (some best.address) .lockLost s t := by
  obtain ⟨v, -, hv, hshows⟩ := h
  obtain ⟨-, -, hou, -⟩ := id hv
  rw [← hou] at hr hbest
  rw [← qualifyingRival_congr hv] at hbest
  obtain ⟨p, hp, haddress⟩ := bestQualifying_some hbest
  rw [roleAtAcqChange_owner_yields hr hp, haddress] at hshows
  exact yielded_congr hv (yielded_of_shows hr hshows)

/-- With no qualifying rival an owner goes on in HOLD (R131). -/
theorem enters.owns_hold (h : enters .hold s t) (hnone : ∀ p ∈ s.ou.peers, ¬qualifyingRival s p) :
    t.ou = s.ou ∧ t.hbu = s.hbu ∧ t.sau = s.sau := by
  obtain ⟨v, -, hv, hshows⟩ := h
  obtain ⟨-, -, hou, hhbu, hsau⟩ := id hv
  rw [← hou] at hr hnone
  rw [← qualifyingRival_congr hv] at hnone
  rw [roleAtAcqChange_owner_stays hr (bestQualifying_none hnone)] at hshows
  exact ⟨hshows.ou.trans hou, hshows.hbu.trans hhbu, hshows.sau.trans hsau⟩

end

/-! ## The commands (R12 to R16) -/

/-- The hold limit and changed signalling take the station below HOLD (R13, R16). -/
theorem exec_fallsBelowHold {c : Instr} {s : State} (hr : running s)
    (hc : c = .holdLimit ∧ s.gau.acq = .hold ∧ s.gau.holdCount = s.cfg.holdLimit
      ∨ ∃ g, c = .frameCheck ⟨true, some g⟩ ∧ s.gau.acq = .track ∧ s.gau.current ≠ some g) :
    ∃ new t, exec c s = .next t ∧ belowHold new = true ∧ new ≠ .track ∧ enters new s t := by
  rcases hc with ⟨rfl, ha, hcount⟩ | ⟨g, rfl, ha, hg⟩
  · refine ⟨.symbol, _, exec_holdLimit hr (holdLimitDue_iff.mpr ⟨ha, hcount.ge⟩), rfl, nofun, ?_⟩
    exact enters_changeAcq (by simp [ha]) ⟨rfl, rfl, rfl, rfl, rfl⟩
  · refine ⟨.frame, _, exec_frameCheck _ hr, rfl, nofun, ?_⟩
    rw [takeFrameCheck_changed (.inl ha) hg]
    exact enters_changeAcq (by simp [ha]) ⟨rfl, rfl, rfl, rfl, rfl⟩

/-- Settles O34: each command is an entry into an acquisition state, and the role's move follows it. -/
theorem roleFollowsAcquisition : Obligations.RoleFollowsAcquisition := by
  refine ⟨fun g s hr ha hsub hcand hrole => ⟨_, exec_frameCheck _ hr, ?track⟩,
    fun r s hr ha hmiss => ⟨_, exec_frameCheck _ hr, ?hold⟩, fun c s hr hc => ?below⟩
  case track =>
    rw [takeFrameCheck_confirm ha hsub, checkInConfirm_agrees hcand]
    have entered : enters .track s (attempt (enterTrack (some g) s)) :=
      enters_changeAcq (by simp [ha]) ⟨rfl, rfl, rfl, rfl, rfl⟩
    exact ⟨entered.acq, entered.toStandby rfl hrole⟩
  case hold =>
    rw [takeFrameCheck_track ha, checkInTrack_secondMiss hmiss]
    have entered : enters .hold s
        (attempt (enterHold (recordCause .frameLost { s with gau := { s.gau with syncMissRun := 0 } }))) :=
      enters_changeAcq (by simp [ha]) ⟨rfl, rfl, rfl, rfl, rfl⟩
    refine ⟨entered.acq, fun h => entered.stays (.inr (h.imp_left fun hs => ⟨hs, rfl⟩)), fun ht => ?_,
      fun ho => ⟨fun best hbest => ?_, fun hnone => entered.owns_hold ho hnone⟩⟩
    · obtain ⟨hou, hhbu, htake, hstatus⟩ := entered.endsTake nofun ht
      exact ⟨hou, htake, hstatus, by rw [hhbu]; rfl, by rw [hhbu]; rfl⟩
    · obtain ⟨hou, hsau, hhbu, hstatus, hyield, -⟩ := entered.yields_hold ho hbest
      exact ⟨by rw [hou], hstatus, hyield, by rw [hhbu]; rfl, by rw [hhbu]; rfl, by rw [hsau]⟩
  case below =>
    obtain ⟨new, t, hexec, hbelow, hnew, entered⟩ := exec_fallsBelowHold hr hc
    refine ⟨t, hexec, by rw [entered.acq]; exact hbelow,
      fun h => entered.stays (h.imp (fun ha => ⟨ha, hnew⟩) .inr), ?falls, fun ht => ?take, fun ho => ?owner⟩
    case falls =>
      rintro (hs | ht)
      · obtain ⟨hou, hhbu, hstatus⟩ := entered.toAbsent hbelow hs
        rw [hou, hhbu]
        exact ⟨rfl, rfl, rfl, rfl, rfl, hstatus⟩
      · obtain ⟨hou, hhbu, -, hstatus⟩ := entered.endsTake hnew ht
        rw [hou, hhbu, if_pos hbelow]
        exact ⟨rfl, rfl, rfl, rfl, rfl, hstatus⟩
    case take =>
      obtain ⟨hou, -, htake, -⟩ := entered.endsTake hnew ht
      exact ⟨htake, by rw [hou]⟩
    case owner =>
      obtain ⟨hou, hsau, hhbu, -, hyield, hpremium, hstandard, hspare⟩ := entered.yields_below ho hbelow
      exact ⟨by rw [hou], by rw [hhbu]; rfl, hyield, hpremium, hstandard, hspare, by rw [hhbu]; rfl, by rw [hhbu]; rfl,
        by rw [hsau], by rw [hsau]⟩

end Sys2Proof.Machine

/-! # Proofs: the decisions at a report expiry (R115, R118 to R120, R122 to R125, R150, R151, R155) -/

namespace Sys2Proof.Machine

/-! ## The state a decision is taken on (R115, R118) -/

/-- The state `d` is station `s` with the view aged, the mark recorded and the merit graded: all that a decision reads beside
these is as it stood. -/
structure DecidesFrom (s d : State) : Prop where
  cfg : d.cfg = s.cfg
  gau : d.gau = s.gau
  silence : d.silence = s.silence
  ri : d.ri = s.ri
  hbu : d.hbu = s.hbu
  role : d.ou.role = s.ou.role
  count : d.ou.challengeCount = s.ou.challengeCount
  timer : d.ou.handoverTimer = s.ou.handoverTimer
  sender : d.ou.lastPayloadSender = s.ou.lastPayloadSender

/-- The state `t` shows what the decision taken on `d` left, with a STATUS requested: only demand and share, the line and the
lamp may differ. -/
structure ShowsDecision (d t : State) : Prop where
  pru : t.pru = d.pru
  ou : t.ou = (periodicDecision d).ou
  hbu : t.hbu = (periodicDecision d).hbu
  credit : t.sau.credit = (periodicDecision d).sau.credit
  ri : t.ri = { (periodicDecision d).ri with statusSlot := true, busView := t.ri.busView, tx := t.ri.tx }

theorem decidesFrom_decidesOn {s u : State} (hcfg : u.cfg = s.cfg) (hgau : u.gau = s.gau)
    (hsilence : u.silence = s.silence) (hri : u.ri = s.ri) (hhbu : u.hbu = s.hbu) (hou : u.ou = s.ou) :
    DecidesFrom s (decidesOn u) := by
  exact ⟨hcfg, hgau, hsilence, hri, hhbu, by rw [← hou]; rfl, by rw [← hou]; rfl, by rw [← hou]; rfl,
    by rw [← hou]; rfl⟩

/-- In either order of the share and the ownership unit an expiry shows a decision (R115, R163). -/
theorem reportExpiry_decides (b : Bool) (s : State) :
    ∃ d, DecidesFrom s d ∧ ShowsDecision d (attempt (takeExpiry b s)) := by
  have shown {u e : State} (hpru : e.pru = u.pru) (hou : e.ou = (ownershipExpiry u).ou)
      (hhbu : e.hbu = (ownershipExpiry u).hbu) (hcredit : e.sau.credit = (ownershipExpiry u).sau.credit)
      (hri : e.ri = (ownershipExpiry u).ri) : ShowsDecision (decidesOn u) (attempt e) := by
    have hshows := shows_attempt e
    refine ⟨by simpa [decidesOn] using hpru, hshows.ou.trans hou, hshows.hbu.trans hhbu, ?_, ?_⟩
    · rw [hshows.sau]
      exact hcredit
    · rw [hshows.ri, hri]
      rfl
  cases b with
  | true =>
    refine ⟨_, decidesFrom_decidesOn (u := shareExpiry (closePeriods s)) rfl rfl rfl rfl rfl rfl,
      shown ?_ rfl rfl rfl rfl⟩
    simp [takeExpiry, ownershipExpiry]
  | false =>
    refine ⟨_, decidesFrom_decidesOn (u := closePeriods s) rfl rfl rfl rfl rfl rfl, shown ?_ rfl rfl rfl rfl⟩
    simp [takeExpiry, ownershipExpiry, shareExpiry]

theorem ShowsDecision.view {d t : State} (h : ShowsDecision d t) : t.ou.peers = d.ou.peers
    ∧ t.ou.emptyMark = d.ou.emptyMark ∧ t.ou.previousMark = d.ou.previousMark := by
  obtain ⟨hpeers, hempty, hprevious, -⟩ := (periodicDecision_decides d).view
  rw [h.ou]
  exact ⟨hpeers, hempty, hprevious⟩

/-! ## The decisions, case by case (R123 to R125) -/

/-- The challenge count is set, and nothing else (R124). -/
def countedChallenge (n : Nat) (s : State) : State := { s with ou := { s.ou with challengeCount := n } }

theorem fitToOwn_iff {s : State} : fitToOwn s = true ↔ s.gau.acq = .track ∧ s.cfg.meritFloor ≤ s.pru.smoothed
    ∧ s.silence = false ∧ s.ri.clashHold = none := by
  rw [← mayTransmit_iff]
  exact decide_eq_true_iff

theorem rivalOwner_eq (s : State) : rivalOwner s =
    bestOf betterPeer (s.ou.peers.filter fun p => decide (p.role = .owner) && isRival s.cfg.group p) := by
  rw [rivalOwner, rivals, List.filter_filter]

theorem rivalOwning_iff {s : State} (p : Peer) :
    (decide (p.role = .owner) && isRival s.cfg.group p) = true ↔ rivalOwning s p := by
  simp only [isRival, rivalOwning, Bool.and_eq_true, decide_eq_true_eq]
  tauto

section
variable {d : State} (hr : d.ou.role = .standby)
include hr

/-- An empty group is taken on the last owner signature (R119, R123). -/
theorem periodicDecision_owns (hfit : fitToOwn d = true) (hempty : d.ou.emptyMark = true ∧ d.ou.previousMark = true) :
    periodicDecision d = enterOwner (lastHeard d.ou.lastPayloadSender d.ou.peers) d := by
  rw [periodicDecision, hr, ← lastOwnerSignature_eq]
  exact if_pos ⟨hfit, hempty⟩

theorem periodicDecision_tests (h : ¬(fitToOwn d = true ∧ d.ou.emptyMark = true ∧ d.ou.previousMark = true)) :
    periodicDecision d = challengeTest d := by
  rw [periodicDecision, hr]
  exact if_neg h

theorem periodicDecision_unfit (hfit : ¬fitToOwn d = true) : periodicDecision d = countedChallenge 0 d := by
  rw [periodicDecision_tests hr fun h => hfit h.1, challengeTest, if_neg hfit]
  rfl

section
variable (hfit : fitToOwn d = true) (hempty : ¬(d.ou.emptyMark = true ∧ d.ou.previousMark = true))
include hfit hempty

theorem periodicDecision_noRival (hnone : ∀ p ∈ d.ou.peers, ¬rivalOwning d p) :
    periodicDecision d = countedChallenge 0 d := by
  have hrival : rivalOwner d = none := (rivalOwner_eq d).trans (bestOf_no_peer rivalOwning_iff hnone)
  rw [periodicDecision_tests hr fun h => hempty h.2, challengeTest, if_pos hfit, hrival]
  rfl

/-- The challenge test against the best rival owner (R124). -/
theorem periodicDecision_rival {best : Peer} (hbest : bestPeer (rivalOwning d) d.ou.peers best) : periodicDecision d =
    if best.merit + d.cfg.hysteresis < d.pru.smoothed then
      if d.cfg.challengeLimit ≤ d.ou.challengeCount + 1 then challenge d
      else countedChallenge (d.ou.challengeCount + 1) d
    else countedChallenge 0 d := by
  obtain ⟨p, hp, hmerit, -⟩ := bestOf_bestPeer rivalOwning_iff hbest
  rw [← rivalOwner_eq] at hp
  rw [periodicDecision_tests hr fun h => hempty h.2, challengeTest, if_pos hfit, hp, ← hmerit]
  rfl

end

end

section
variable {d : State} (hr : d.ou.role = .owner)
include hr

/-- An owner at or above the floor, or with no qualifying rival, goes on (R125). -/
theorem periodicDecision_ownerStays
    (h : d.cfg.meritFloor ≤ d.pru.smoothed ∨ ∀ p ∈ d.ou.peers, ¬qualifyingRival d p) : periodicDecision d = d := by
  rw [periodicDecision, hr]
  rcases h with hfloor | hnone
  · exact if_neg (Nat.not_lt.mpr hfloor)
  · simp [ownerDecision, bestQualifying_none hnone]

/-- An owner below the floor yields to the best qualifying rival (R125). -/
theorem periodicDecision_ownerYields (hfloor : d.pru.smoothed < d.cfg.meritFloor) {best : Peer}
    (hbest : bestPeer (qualifyingRival d) d.ou.peers best) :
    periodicDecision d = yieldWith (some best.address) .belowFloor d := by
  obtain ⟨p, hp, haddress⟩ := bestQualifying_some hbest
  rw [periodicDecision, hr]
  simp [ownerDecision, hfloor, hp, haddress]

end

theorem periodicDecision_other {d : State} (hs : d.ou.role ≠ .standby) (ho : d.ou.role ≠ .owner) :
    periodicDecision d = d := by
  unfold periodicDecision
  split
  case h_1 h => exact absurd h hs
  case h_2 h => exact absurd h ho
  all_goals rfl

/-- What a challenge leaves (R124, R150). -/
theorem challenge_spec {s : State} (hr : s.ou.role = .standby) :
    (challenge s).ou = { s.ou with role := .taking, challengeCount := 0, handoverTimer := some s.cfg.handoverTimeout }
    ∧ (challenge s).hbu = storesForRole .taking s.hbu
    ∧ (challenge s).ri.takeSlot
      = some { group := s.cfg.group, merit := s.pru.smoothed, anchor := s.hbu.lead.getLast? } := by
  obtain ⟨hou, -, hhbu, -⟩ := changeRole_spec .taking (requestTake s.pru.smoothed (leadAnchor s.hbu) s)
  have hri : (challenge s).ri = _ := changeRole_ri (r := .taking)
    (s := requestTake s.pru.smoothed (leadAnchor s.hbu) s) (by simp [hr])
  refine ⟨?_, hhbu, by rw [hri]; rfl⟩
  rw [challenge, startHandover, hou]
  simp

/-! ## What an expiry shows of a decision -/

section
variable {s d t : State} (hd : DecidesFrom s d) (ht : ShowsDecision d t)
include hd ht

theorem DecidesFrom.stays {n : Nat} (h : periodicDecision d = countedChallenge n d) :
    t.ou.role = s.ou.role ∧ t.ou.challengeCount = n ∧ t.hbu = s.hbu ∧ t.ri.takeSlot = s.ri.takeSlot
      ∧ t.ri.yieldSlot = s.ri.yieldSlot ∧ t.ou.handoverTimer = s.ou.handoverTimer := by
  rw [ht.ou, ht.hbu, ht.ri, h]
  have hri : (countedChallenge n d).ri = s.ri := hd.ri
  rw [hri]
  exact ⟨hd.role, rfl, hd.hbu, rfl, rfl, hd.timer⟩

/-- No decision at all leaves the challenge count too. -/
theorem DecidesFrom.staysWhole (h : periodicDecision d = d) :
    t.ou.role = s.ou.role ∧ t.ou.challengeCount = s.ou.challengeCount ∧ t.hbu = s.hbu ∧ t.ri.takeSlot = s.ri.takeSlot
      ∧ t.ri.yieldSlot = s.ri.yieldSlot ∧ t.ou.handoverTimer = s.ou.handoverTimer := by
  exact hd.stays ht (by rw [h, ← hd.count]; rfl)

theorem DecidesFrom.owns (h : periodicDecision d = enterOwner (lastHeard d.ou.lastPayloadSender d.ou.peers) d) :
    t.ou.role = .owner ∧ ownsFrom (lastHeard s.ou.lastPayloadSender t.ou.peers) s.hbu t.hbu
      ∧ t.ou.handoverTimer = none ∧ t.ri.takeSlot = none ∧ t.ri.lastSent = none ∧ t.ou.challengeCount = 0 := by
  have hstores := enterOwner_hbu (lastHeard d.ou.lastPayloadSender d.ou.peers) d
  obtain ⟨hou, -⟩ := enterOwner_spec (lastHeard d.ou.lastPayloadSender d.ou.peers) d
  rw [ht.view.1, ← hd.sender, ← hd.hbu, ht.ou, ht.hbu, ht.ri, h]
  exact ⟨by rw [hou], hstores, by rw [hou], enterOwner_takeSlot _ _, enterOwner_lastSent _ _, by rw [hou]⟩

theorem DecidesFrom.challenges (hr : s.ou.role = .standby) (h : periodicDecision d = challenge d) :
    t.ou.role = .taking ∧ t.ou.challengeCount = 0 ∧ t.ou.handoverTimer = some s.cfg.handoverTimeout
      ∧ t.ri.takeSlot = some { group := s.cfg.group, merit := t.pru.smoothed, anchor := s.hbu.lead.getLast? }
      ∧ t.hbu.ring = s.hbu.ring ∧ t.hbu.lead = s.hbu.lead := by
  have hrole : d.ou.role = .standby := hd.role.trans hr
  obtain ⟨hou, hhbu, htake⟩ := challenge_spec hrole
  rw [ht.ou, ht.hbu, ht.ri, ht.pru, h, hou, hhbu, ← hd.cfg, ← hd.hbu]
  exact ⟨rfl, rfl, rfl, htake, rfl, rfl⟩

theorem DecidesFrom.yields (hr : s.ou.role = .owner) {a : Address} (h : periodicDecision d = yieldWith (some a) .belowFloor d) :
    t.ou.role = .yielding ∧ t.hbu.phase = .none ∧ t.sau.credit = 0
      ∧ t.ri.yieldSlot = some { group := s.cfg.group, successor := some a, reason := .belowFloor }
      ∧ t.ri.premium = [] ∧ t.ri.standard = [] ∧ t.ri.spare = [] ∧ t.hbu.ring = [] ∧ t.hbu.lead = [] := by
  have hrole : d.ou.role = .owner := hd.role.trans hr
  obtain ⟨hou, hsau, hhbu, -, hyield, -, -, hqueue⟩ := yieldWith_owner (some a) .belowFloor hrole
  rw [ht.ou, ht.hbu, ht.credit, ht.ri, h, hou, hsau, hhbu, ← hd.cfg]
  exact ⟨rfl, rfl, rfl, hyield, hqueue .premium, hqueue .standard, hqueue .spare, rfl, rfl⟩

end

/-- Settles O33: an expiry shows the decision of the role, taken on the merit and the view it leaves. -/
theorem periodicDecisionByRole : Obligations.PeriodicDecisionByRole := by
  intro b n s hr hn
  obtain ⟨d, hd, ht⟩ := reportExpiry_decides b s
  refine ⟨_, exec_reportExpiry b hr hn, ?_⟩
  generalize attempt (takeExpiry b s) = t at ht ⊢
  intro fit empty stays
  obtain ⟨hpeers, hmark, hprevious⟩ := ht.view
  have hfit : fitToOwn d = true ↔ fit := by rw [fitToOwn_iff, hd.gau, hd.cfg, hd.silence, hd.ri, ← ht.pru]
  have hempty : (d.ou.emptyMark = true ∧ d.ou.previousMark = true) ↔ empty := by rw [← hmark, ← hprevious]
  have hrival : rivalOwning d = rivalOwning s := by funext p; rw [rivalOwning, hd.cfg, rivalOwning]
  have hqualifies : qualifyingRival d = qualifyingRival s := by funext p; rw [qualifyingRival, hd.cfg, qualifyingRival]
  rw [hpeers, ← hrival, ← hqualifies]
  refine ⟨fun hs => ?standby, fun ho => ?owner, fun hs ho => ?other⟩
  case standby =>
    have hds : d.ou.role = .standby := hd.role.trans hs
    refine ⟨fun hf he => ?_, fun hf => ?_, fun hf he hnone => ?_, fun hf he best hbest => ?rival⟩
    · rw [← hpeers]
      exact hd.owns ht (periodicDecision_owns hds (hfit.mpr hf) (hempty.mpr he))
    · exact hd.stays ht (periodicDecision_unfit hds (mt hfit.mp hf))
    · exact hd.stays ht (periodicDecision_noRival hds (hfit.mpr hf) (mt hempty.mp he) hnone)
    case rival =>
      have htest := periodicDecision_rival hds (hfit.mpr hf) (mt hempty.mp he) hbest
      rw [hd.cfg, hd.count, ← ht.pru] at htest
      refine ⟨fun hle => ?_, fun hlt hmore => ?_, fun hlt hlimit => ?_⟩
      · exact hd.stays ht (htest.trans (if_neg (Nat.not_lt.mpr hle)))
      · rw [if_pos hlt, if_neg (Nat.not_le.mpr hmore)] at htest
        exact hd.stays ht htest
      · rw [if_pos hlt, if_pos hlimit] at htest
        exact hd.challenges ht hs htest
  case owner =>
    have hdo : d.ou.role = .owner := hd.role.trans ho
    refine ⟨fun hlow best hbest => ?_, fun h => ?_⟩
    · rw [ht.pru, ← hd.cfg] at hlow
      exact hd.yields ht ho (periodicDecision_ownerYields hdo hlow hbest)
    · rw [ht.pru, ← hd.cfg] at h
      exact hd.staysWhole ht (periodicDecision_ownerStays hdo h)
  case other =>
    exact hd.staysWhole ht (periodicDecision_other (hd.role ▸ hs) (hd.role ▸ ho))

end Sys2Proof.Machine

/-! # Proofs: the anchor's resolution by the stores (R144, R149, R151) -/

namespace Sys2Proof.Machine

/-! ## Each store by its own equation (R151) -/

/-- The last released signature keeps the whole ring (R151). -/
theorem resolveAnchor_released {a : Signature} {h : HoldBack} (ha : h.lastReleased = some a) :
    resolveAnchor (some a) h = { h with lastReleased := none, phase := if h.ring = [] then .live else .drain } :=
  if_pos ha

/-- The oldest clean match releases itself and everything older (R144, R151). -/
theorem resolveAnchor_ring {a : Signature} {h : HoldBack} {old rest : List RingEntry} {e : RingEntry}
    (ha : h.lastReleased ≠ some a) (hring : h.ring = old ++ e :: rest) (he : e.signature = a) (hclean : e.errored = false)
    (hold : ∀ x ∈ old, x.signature ≠ a ∨ x.errored = true) :
    resolveAnchor (some a) h =
      { h with ring := rest, lastReleased := none, phase := if rest = [] then .live else .drain } := by
  have hmatch : dropThrough (ringMatch a) h.ring = some rest :=
    dropThrough_eq_some.mpr
      ⟨old, e, hring, by simp [ringMatch, he, hclean], fun x hx => ringMatch_eq_false.mpr (hold x hx)⟩
  rw [resolveAnchor, if_neg ha, hmatch]

section
variable {a : Signature} {h : HoldBack} (ha : h.lastReleased ≠ some a)
  (hring : ∀ e ∈ h.ring, e.signature ≠ a ∨ e.errored = true)
include ha hring

/-- An anchor the ring does not hold is looked for in the lead list, and is held nowhere else (R151). -/
theorem resolveAnchor_pastRing : resolveAnchor (some a) h =
    if a ∈ h.lead then
      { h with lead := keepThroughLast (fun g => decide (g = a)) h.lead, lastReleased := none,
               catchUpCount := 0, phase := .catchUp }
    else resolveToLive h := by
  have hmatch : dropThrough (ringMatch a) h.ring = none :=
    dropThrough_eq_none.mpr fun e he => ringMatch_eq_false.mpr (hring e he)
  rw [resolveAnchor, if_neg ha, hmatch]

/-- The newest lead signature of the anchor drops the newer ones and starts CATCH_UP (R151). -/
theorem resolveAnchor_lead {old newer : List Signature} (hlead : h.lead = old ++ a :: newer) (hnewer : a ∉ newer) :
    resolveAnchor (some a) h =
      { h with lead := old ++ [a], lastReleased := none, catchUpCount := 0, phase := .catchUp } := by
  have hkept : keepThroughLast (fun g => decide (g = a)) h.lead = old ++ [a] := by
    rw [hlead]
    exact keepThroughLast_append old a newer (decide_eq_true rfl)
      fun x hx => decide_eq_false fun hxa => hnewer (hxa ▸ hx)
  rw [resolveAnchor_pastRing ha hring, if_pos (by simp [hlead]), hkept]

/-- An anchor found nowhere empties both stores (R151). -/
theorem resolveAnchor_nowhere (hlead : a ∉ h.lead) : resolveAnchor (some a) h = resolveToLive h := by
  rw [resolveAnchor_pastRing ha hring, if_neg hlead]

end

/-! ## O47 -/

/-- Settles O47: the first store that holds the anchor resolves it; beside a lead list there is no last released signature
and no ring entry, so that the lead list is reached. -/
theorem anchorResolvesByStores : Obligations.AnchorResolvesByStores := by
  intro h hsound
  obtain ⟨-, -, -, hreleased⟩ := hsound
  refine ⟨rfl, rfl, rfl, fun a => ⟨(resolveAnchor_owns (some a) h).2, fun ha => ?released,
    fun old e rest ha hring he hclean hold => ?ring, fun old newer hring hlead hnewer => ?lead,
    fun ha hring hlead => ?nowhere⟩⟩
  case released => rw [resolveAnchor_released ha]; exact ⟨rfl, rfl⟩
  case ring => rw [resolveAnchor_ring ha hring he hclean hold]; exact ⟨rfl, rfl⟩
  case lead =>
    have ha : h.lastReleased ≠ some a := by rw [hreleased (by simp [hlead])]; exact nofun
    rw [resolveAnchor_lead ha (by simp [hring]) hlead hnewer]
    exact ⟨rfl, rfl, rfl⟩
  case nowhere => rw [resolveAnchor_nowhere ha hring hlead]; exact ⟨rfl, rfl, rfl⟩

end Sys2Proof.Machine

/-! # Proofs: handover gaps, drain offers and the drops of a ring in DRAIN (R140, R152, R153, R155 to R157, R173) -/

namespace Sys2Proof.Machine

/-! ## Admission and the stores beside it (R170 to R173)

The share and admission unit neither reads nor changes the hold-back stores and the lamp, so that a record offered from any
phase is taken as LIVE takes it. -/

/-- The hold-back stores and the lamp set to `h` and `i`. -/
def holding (h : HoldBack) (i : Indicator) (s : State) : State := { s with hbu := h, iu := i }

theorem countDrop_holding (c : ServiceClass) (h : HoldBack) (i : Indicator) (s : State) :
    countDrop c (holding h i s) = holding h i (countDrop c s) := by
  cases c <;> rfl

theorem countDrop_eq (c : ServiceClass) (s : State) : countDrop c s = { s with ri := (countDrop c s).ri } := by
  cases c <;> rfl

theorem offerRecord_holding (e : QueueEntry) (h : HoldBack) (i : Indicator) (s : State) :
    offerRecord e (holding h i s) = holding h i (offerRecord e s) := by
  have hou : (holding h i s).ou = s.ou := rfl
  have hanswer : admissionAnswer e.cls (holding h i s) = admissionAnswer e.cls s := rfl
  simp only [offerRecord, hou, hanswer, countDrop_holding]
  split
  · split <;> rfl
  · rfl

theorem offerRecord_eq (e : QueueEntry) (s : State) :
    offerRecord e s = { s with ri := (offerRecord e s).ri, sau := (offerRecord e s).sau } := by
  have hdrop : countOffered (countDrop e.cls s)
      = { s with ri := (countDrop e.cls s).ri, sau := (countOffered (countDrop e.cls s)).sau } := by
    rw [countDrop_eq]
    rfl
  unfold offerRecord
  split
  · split
    · rfl
    · exact hdrop
    · exact hdrop
  · cases e.cls <;> rfl

/-- The state after an owner in LIVE has taken a record. -/
def takenLive (r : RingEntry) (s : State) : State := takeRecord r { s with hbu := { s.hbu with phase := .live } }

/-- A record an owner offers, whatever its stores and lamp then are, is taken as LIVE takes it (R148, R170). -/
theorem offerRecord_takenLive (r : RingEntry) {s : State} (hrole : s.ou.role = .owner) (h : HoldBack) (i : Indicator) :
    offerRecord (queueEntry r) { s with hbu := h, iu := i } =
      { s with ri := (takenLive r s).ri, sau := (takenLive r s).sau, hbu := h, iu := i } := by
  have hlive : takenLive r s = holding { s.hbu with phase := .live } s.iu (offerRecord (queueEntry r) s) :=
    (takeRecord_live (s := { s with hbu := { s.hbu with phase := .live } }) hrole rfl).trans
      (offerRecord_holding (queueEntry r) _ s.iu s)
  rw [hlive]
  exact (offerRecord_holding (queueEntry r) h i s).trans (congrArg (holding h i) (offerRecord_eq (queueEntry r) s))

/-- A record handed on as the phase becomes LIVE, whatever stores `h` that leaves (R152, R153, R157). -/
theorem offerRecord_goLive (r : RingEntry) {s : State} (hrole : s.ou.role = .owner) (h : HoldBack) :
    offerRecord (queueEntry r) (goLive { s with hbu := h }) =
      { s with ri := (takenLive r s).ri, sau := (takenLive r s).sau, hbu := { h with phase := .live },
               iu := (goLive { s with hbu := h }).iu } := by
  rw [goLive_eq]
  exact offerRecord_takenLive r hrole _ _

/-! ## Handover gaps (R152, R153) -/

theorem catchUpRecord_gap {r : RingEntry} {s : State}
    (h : s.cfg.catchUpLimit ≤ s.hbu.catchUpCount + 1 ∨ (r.errored = false ∧ r.signature ∉ s.hbu.lead)) :
    catchUpRecord r s = catchUpGap r (caughtUp s) := by
  by_cases hlimit : s.cfg.catchUpLimit ≤ s.hbu.catchUpCount + 1
  · exact if_pos hlimit
  · obtain ⟨hclean, hnone⟩ := h.resolve_left hlimit
    rw [catchUpRecord, if_neg hlimit, if_neg (by simp [hclean])]
    simp only [dropThrough_noSignature hnone]
    rfl

theorem takeRecord_catchUp (r : RingEntry) {s : State} (hrole : s.ou.role = .owner) (hphase : s.hbu.phase = .catchUp) :
    takeRecord r s = catchUpRecord r s := by
  simp [takeRecord, hrole, hphase]

theorem offerRecord_clashHold (e : QueueEntry) (s : State) : (offerRecord e s).ri.clashHold = s.ri.clashHold := by
  have hdrop : (countDrop e.cls s).ri.clashHold = s.ri.clashHold := by simp [countDrop]
  have hadmit : (admitEntry e s).ri.clashHold = s.ri.clashHold := by
    obtain ⟨-, -, -, -, -, -, hhold, -⟩ := withQueue_riser e.cls (queueOf e.cls s.ri ++ [e]) s.ri
    exact hhold
  unfold offerRecord
  split
  · split
    · exact hadmit
    · exact hdrop
    · exact hdrop
  · exact hdrop

/-- An admission or a drop changes nothing the lamp's pattern is chosen by (R189). -/
theorem offerRecord_basePattern (e : QueueEntry) (s : State) : basePattern (offerRecord e s) = basePattern s := by
  simp only [basePattern, offerRecord_frame, offerRecord_clashHold]

/-- A handover gap shows the pattern of the phase it enters (R189). -/
theorem catchUpGap_pattern (r : RingEntry) (s : State) : (catchUpGap r s).iu.pattern = basePattern (catchUpGap r s) := by
  simp only [catchUpGap, offerRecord_basePattern, offerRecord_frame, goLive, refreshLamp_pattern, refreshLamp_basePattern]

/-! ## Drain offers (R155 to R157, R173) -/

/-- A packet that passes its credit test finds its class queue full (R173). -/
def findsFull (e : RingEntry) (s : State) : Prop :=
  passesTest e.cls s ∧ queueCapacity e.cls ≤ (queueOf e.cls s.ri).length

/-- The oldest ring entry offered as LIVE offers a record, and gone from the ring (R156). -/
def oldestOffered (e : RingEntry) (rest : List RingEntry) (s : State) : State :=
  { s with ri := (takenLive e s).ri, sau := (takenLive e s).sau, hbu := { s.hbu with ring := rest } }

theorem admissionAnswer_full {e : RingEntry} {s : State} : admissionAnswer e.cls s = .queueFull ↔ findsFull e s := by
  rw [findsFull, ← passesCredit_iff, ← Nat.not_lt, admissionAnswer]
  split
  case isTrue hp => split <;> simp [*]
  case isFalse hp => simp [hp]

/-- A full class queue ends a drain offer (R156). -/
theorem offerEntries_full {n : Nat} {e : RingEntry} {rest : List RingEntry} {s : State} (hring : s.hbu.ring = e :: rest)
    (hfull : findsFull e s) : offerEntries (n + 1) s = s := by
  simp only [offerEntries, hring, admissionAnswer_full.mpr hfull]

/-- Any other oldest entry leaves the ring, admitted or dropped (R156, R173). -/
theorem offerEntries_leaves {n : Nat} {e : RingEntry} {rest : List RingEntry} {s : State} (hrole : s.ou.role = .owner)
    (hring : s.hbu.ring = e :: rest) (hroom : ¬findsFull e s) :
    offerEntries (n + 1) s = offerEntries n (oldestOffered e rest s) := by
  have hoffer : offerRecord (queueEntry e) { s with hbu := { s.hbu with ring := rest } } = oldestOffered e rest s :=
    offerRecord_takenLive e hrole { s.hbu with ring := rest } s.iu
  have hanswer : admissionAnswer e.cls { s with hbu := { s.hbu with ring := rest } } = admissionAnswer e.cls s := rfl
  have hcls : (queueEntry e).cls = e.cls := rfl
  rw [← hoffer, offerRecord, if_pos hrole, hcls, hanswer]
  cases ha : admissionAnswer e.cls s with
  | admitted => simp only [offerEntries, hring, ha]
  | dropped => simp only [offerEntries, hring, ha]
  | queueFull => exact absurd (admissionAnswer_full.mp ha) hroom

/-- An offer that empties the ring makes the phase LIVE (R157). -/
theorem drainOffer_emptied {s t : State} (h : offerEntries 2 s = t) (hring : t.hbu.ring = []) :
    drainOffer s = { t with hbu := { t.hbu with phase := .live }, iu := (goLive t).iu } := by
  rw [drainOffer, h, if_pos hring]
  exact goLive_eq t

theorem drainOffer_left {s t : State} (h : offerEntries 2 s = t) (hring : t.hbu.ring ≠ []) : drainOffer s = t := by
  rw [drainOffer, h, if_neg hring]

/-! ## The drops of a ring in DRAIN (R140) -/

/-- A drop changes the drop counts alone (R103). -/
theorem countRemoved_ri (l : List RingEntry) (s : State) : ∃ premium standard spare, (countRemoved l s).ri =
    { s.ri with dropsPremium := premium, dropsStandard := standard, dropsSpare := spare } := by
  induction l generalizing s with
  | nil => exact ⟨_, _, _, rfl⟩
  | cons e l ih =>
    obtain ⟨premium, standard, spare, h⟩ := ih (countDrop e.cls s)
    have hcons : (countRemoved (e :: l) s).ri = _ := h
    rw [hcons]
    cases e.cls <;> exact ⟨_, _, _, rfl⟩

theorem countRemoved_holding (l : List RingEntry) (h : HoldBack) (i : Indicator) (s : State) :
    countRemoved l (holding h i s) = holding h i (countRemoved l s) := by
  induction l generalizing s with
  | nil => rfl
  | cons e l ih => exact (congrArg (countRemoved l) (countDrop_holding e.cls h i s)).trans (ih _)

theorem countRemoved_eq (l : List RingEntry) (s : State) : countRemoved l s = { s with ri := (countRemoved l s).ri } := by
  induction l generalizing s with
  | nil => rfl
  | cons e l ih =>
    have hdrop (ri : Riser) : { countDrop e.cls s with ri := ri } = { s with ri := ri } := by cases e.cls <;> rfl
    exact (ih (countDrop e.cls s)).trans (hdrop _)

theorem countRemoved_hbu (l : List RingEntry) (h : HoldBack) (s : State) :
    countRemoved l { s with hbu := h } = { s with ri := (countRemoved l s).ri, hbu := h } :=
  (countRemoved_holding l h s.iu s).trans (congrArg (holding h s.iu) (countRemoved_eq l s))

/-- How many of the entries are of a class. -/
def ofClass (c : ServiceClass) (l : List RingEntry) : Nat := l.countP fun e => decide (e.cls = c)

/-- Each entry removed is counted in its class (R140, R103). -/
theorem countRemoved_drops (c : ServiceClass) (l : List RingEntry) (s : State) : dropsOf c (countRemoved l s).ri =
    if ofClass c l = 0 then dropsOf c s.ri else raiseCountBy (ofClass c l) (dropsOf c s.ri) := by
  induction l generalizing s with
  | nil => rfl
  | cons e l ih =>
    have hcons : dropsOf c (countRemoved (e :: l) s).ri = _ := ih (countDrop e.cls s)
    have hcount : ofClass c (e :: l) = ofClass c l + if e.cls = c then 1 else 0 := by
      simp [ofClass, List.countP_cons]
    rw [hcons, hcount, countDrop, countDrops_drops]
    by_cases hc : e.cls = c
    · have hraise (n : Nat) (x : ReportedCount) : raiseCountBy n (raiseCountBy 1 x) = raiseCountBy (n + 1) x := by
        simp [raiseCountBy, satAdd_satAdd, Nat.add_comm]
      rw [if_pos hc, if_pos hc.symm, if_neg (Nat.succ_ne_zero _), hraise]
      split
      case isTrue hnone => rw [hnone]
      case isFalse => rfl
    · rw [if_neg hc, if_neg (Ne.symm hc), Nat.add_zero]

/-- The entries a ring of an owner in DRAIN loses to a record of arrival stamp `b`: the expired ones, and the oldest of those
kept where 128 are (R140). -/
def lostEntries (b : Nat) (ring : List RingEntry) : List RingEntry :=
  ring.takeWhile (expired b) ++ (ringAfterExpiry b ring).take ((ringAfterExpiry b ring).length - 127)

theorem lostEntries_emptied {b : Nat} {ring : List RingEntry} (h : ringAfterExpiry b ring = []) :
    lostEntries b ring = ring.takeWhile (expired b) := by
  simp [lostEntries, h]

theorem draining_iff {s : State} : draining s = true ↔ s.ou.role = .owner ∧ s.hbu.phase = .drain := by
  simp [draining]

theorem expireRing_draining (b : Nat) {s : State} (h : draining s = true) : expireRing b s = { s with
    ri := (countRemoved (s.hbu.ring.takeWhile (expired b)) s).ri
    hbu := { s.hbu with ring := ringAfterExpiry b s.hbu.ring } } := by
  rw [expireRing, if_pos h, countRemoved_hbu]

/-- In DRAIN the oldest entry of a full ring leaves as an overrun and is counted (R140). -/
theorem placeInRing_draining (r : RingEntry) {s : State} (h : draining s = true) (hlen : s.hbu.ring.length ≤ 128) :
    placeInRing r s = { s with
      ri := (countRemoved (s.hbu.ring.take (s.hbu.ring.length - 127)) s).ri
      hbu := { s.hbu with ring := s.hbu.ring.drop (s.hbu.ring.length - 127) ++ [r] } } := by
  by_cases hfull : s.hbu.ring.length = 128
  · rw [placeInRing, if_pos (by omega), if_pos h, countRemoved_hbu, hfull]
  · rw [placeInRing_room r (by omega), Nat.sub_eq_zero_of_le (by omega)]
    rfl

theorem countRemoved_append (k l : List RingEntry) (s : State) :
    countRemoved (k ++ l) s = countRemoved l (countRemoved k s) := List.foldl_append

theorem appendRing_draining (r : RingEntry) {s : State} (h : draining s = true) (hlen : s.hbu.ring.length ≤ 128) :
    let kept := ringAfterExpiry r.stamp s.hbu.ring
    appendRing r s = { s with
      ri := (countRemoved (lostEntries r.stamp s.hbu.ring) s).ri
      hbu := { s.hbu with ring := kept.drop (kept.length - 127) ++ [r] } } := by
  intro kept
  have hkept : kept.length ≤ 128 := (List.dropWhile_suffix (expired r.stamp)).length_le.trans hlen
  have hhbu : (expireRing r.stamp s).hbu = { s.hbu with ring := kept } := expireRing_hbu r.stamp s
  have hou : (expireRing r.stamp s).ou = s.ou := by simp
  have hdrain : draining (expireRing r.stamp s) = true := by
    rw [draining_iff, hhbu, hou]
    exact draining_iff.mp h
  have hexpire : expireRing r.stamp s
      = countRemoved (s.hbu.ring.takeWhile (expired r.stamp)) { s with hbu := { s.hbu with ring := kept } } := if_pos h
  have hlost : (countRemoved (kept.take (kept.length - 127)) (expireRing r.stamp s)).ri
      = (countRemoved (lostEntries r.stamp s.hbu.ring) s).ri := by
    rw [hexpire, lostEntries, ← countRemoved_append, countRemoved_hbu]
  rw [appendRing, placeInRing_draining r hdrain (by rw [hhbu]; exact hkept), hhbu, hlost, expireRing_draining r.stamp h]

section
variable (r : RingEntry) {s : State} (h : draining s = true)
include h

theorem takeRecord_drain : takeRecord r s = drainRecord r s := by
  obtain ⟨hrole, hphase⟩ := draining_iff.mp h
  simp [takeRecord, hrole, hphase]

/-- A record in DRAIN joins what expiry leaves of the ring, and an offer follows (R155). -/
theorem takeRecord_drain_kept (hlen : s.hbu.ring.length ≤ 128) (hkept : ringAfterExpiry r.stamp s.hbu.ring ≠ []) :
    let kept := ringAfterExpiry r.stamp s.hbu.ring
    takeRecord r s = drainOffer { s with
      ri := (countRemoved (lostEntries r.stamp s.hbu.ring) s).ri
      hbu := { s.hbu with ring := kept.drop (kept.length - 127) ++ [r] } } := by
  have hring : (expireRing r.stamp s).hbu.ring ≠ [] := by rw [expireRing_hbu]; exact hkept
  have happend : drainRecord r s = drainOffer (appendRing r s) := if_neg hring
  rw [takeRecord_drain r h, happend, appendRing_draining r h hlen]

/-- A record in DRAIN whose expiry empties the ring is handed on in LIVE (R157, assumption log 13). -/
theorem takeRecord_drain_emptied (hkept : ringAfterExpiry r.stamp s.hbu.ring = []) :
    takeRecord r s = offerRecord (queueEntry r) (goLive { s with
      ri := (countRemoved (lostEntries r.stamp s.hbu.ring) s).ri
      hbu := { s.hbu with ring := [] } }) := by
  have hring : (expireRing r.stamp s).hbu.ring = [] := by rw [expireRing_hbu]; exact hkept
  have hhanded : drainRecord r s = offerRecord (queueEntry r) (goLive (expireRing r.stamp s)) := if_pos hring
  rw [takeRecord_drain r h, hhanded, expireRing_draining r.stamp h, hkept, lostEntries_emptied hkept]

end

/-! ## O29 -/

/-- Settles O29: a gap, an offer and an expiry hand a record on as LIVE takes it, and a record at a ring in DRAIN counts what
the ring loses. -/
theorem drainOffersAndHandoverGaps : Obligations.DrainOffersAndHandoverGaps := by
  unfold Obligations.DrainOffersAndHandoverGaps
  intro asLive full leaves
  refine ⟨fun r s hrole hphase hgap => ?gap, fun e s hrole hphase => ⟨fun rest hring hfull => ?stays,
    fun hring hroom => ?last, fun f rest hring hroom => ?more⟩, fun r s hrole hphase hlen => ?record,
    fun h p s hr htx hrole hphase => ?sent⟩
  case gap =>
    have ht : takeRecord r s = catchUpGap r (caughtUp s) :=
      (takeRecord_catchUp r hrole hphase).trans (catchUpRecord_gap hgap)
    have hgone := offerRecord_goLive r hrole { (caughtUp s).hbu with lead := [] }
    have hiu : (catchUpGap r (caughtUp s)).iu = _ := congrArg State.iu hgone
    rw [ht]
    refine ⟨catchUpGap_pattern r _, ?_⟩
    rw [hiu]
    exact hgone
  case stays => exact drainOffer_left (offerEntries_full hring hfull) (by simp [hring])
  case last => exact ⟨_, drainOffer_emptied (offerEntries_leaves hrole hring hroom) rfl⟩
  case more =>
    have hfirst := offerEntries_leaves (n := 1) hrole hring hroom
    have hsecond (hroom' : ¬full f (leaves e (f :: rest) s)) :
        offerEntries 2 s = oldestOffered f rest (oldestOffered e (f :: rest) s) :=
      hfirst.trans (offerEntries_leaves hrole rfl hroom')
    refine ⟨fun hfull => ?_, fun hroom' hmore => ?_, fun hroom' hnil => ?_⟩
    · exact drainOffer_left (hfirst.trans (offerEntries_full rfl hfull)) (List.cons_ne_nil _ _)
    · exact drainOffer_left (hsecond hroom') hmore
    · subst hnil
      exact ⟨_, drainOffer_emptied (hsecond hroom') rfl⟩
  case record =>
    intro old kept lost
    have hdrain := draining_iff.mpr ⟨hrole, hphase⟩
    refine ⟨(countRemoved lost s).ri, ?alone, fun c => ?counts, fun hkept => takeRecord_drain_kept r hdrain hlen hkept,
      fun hkept => ?handed⟩
    case alone =>
      obtain ⟨premium, standard, spare, hri⟩ := countRemoved_ri lost s
      rw [hri]
    case counts =>
      rw [countRemoved_drops]
      exact ⟨fun hn => if_pos hn, fun hn => if_neg (Nat.ne_of_gt hn)⟩
    case handed =>
      intro u
      rw [takeRecord_drain_emptied r hdrain hkept]
      exact ⟨_, offerRecord_goLive r (s := u) hrole u.hbu⟩
  case sent =>
    exact exec_frameSent hr htx (by simp [frameSentEffect, stopDriving, draining, hrole, hphase]) (by simp)

end Sys2Proof.Machine

/-! # Proofs: the share of each owner, the budget and the admission tick (R163 to R165, R168) -/

namespace Sys2Proof.Machine

/-! ## Parts in proportion to a weight, each rounded down -/

section
variable {α : Type} {weight : α → Nat} {l : List α}

/-- Rounded-down parts of a rest never sum past it, and each leaves less than one unit of it. -/
theorem roundedParts_spend (rest : Nat) (hw : 0 < (l.map weight).sum) :
    (l.map fun x => rest * weight x / (l.map weight).sum).sum ≤ rest
    ∧ rest < (l.map fun x => rest * weight x / (l.map weight).sum).sum + l.length := by
  have hne : l ≠ [] := by rintro rfl; exact absurd hw (Nat.lt_irrefl 0)
  have hwhole : (l.map fun x => rest * weight x).sum = (l.map weight).sum * rest := by
    rw [List.sum_map_mul_left, Nat.mul_comm]
  generalize (l.map weight).sum = total at hw hwhole ⊢
  constructor
  · refine Nat.le_of_mul_le_mul_left ?_ hw
    rw [← hwhole, ← List.sum_map_mul_left]
    exact List.sum_le_sum fun x _ => Nat.mul_div_le _ _
  · refine Nat.lt_of_mul_lt_mul_left (a := total) ?_
    have hparts : (l.map fun x => total * (rest * weight x / total + 1)).sum
        = total * ((l.map fun x => rest * weight x / total).sum + l.length) := by
      rw [List.sum_map_mul_left, List.sum_map_add]; simp
    rw [← hwhole, ← hparts]
    exact List.sum_lt_sum_of_ne_nil hne _ _ fun x _ => Nat.lt_mul_div_succ _ hw

/-- Shares made of a base that fits the budget and a rounded-down part of what the bases leave spend the budget but for less
than one unit each (R165). -/
theorem baseAndParts_spend {base share : α → Nat} {budget : Nat} (hfit : (l.map base).sum ≤ budget)
    (hw : 0 < (l.map weight).sum)
    (hshare : ∀ x, share x = base x + (budget - (l.map base).sum) * weight x / (l.map weight).sum) :
    (l.map share).sum ≤ budget ∧ budget < (l.map share).sum + l.length := by
  have hsum : (l.map share).sum = (l.map base).sum
      + (l.map fun x => (budget - (l.map base).sum) * weight x / (l.map weight).sum).sum := by
    rw [← List.sum_map_add, funext hshare]
  obtain ⟨hle, hlt⟩ := roundedParts_spend (budget - (l.map base).sum) hw
  omega

end

/-! ## The three cases of the share (R164) -/

section
variable {budget : Nat} {owners : List (Nat × Nat)}

theorem shareOf_demandsFit (h : (owners.map effectiveDemand).sum ≤ budget) (o : Nat × Nat) :
    shareOf budget owners o = effectiveDemand o + (budget - (owners.map effectiveDemand).sum) / owners.length :=
  if_pos h

theorem floor_le_effectiveDemand (o : Nat × Nat) : o.2 ≤ effectiveDemand o := Nat.le_max_right _ _

/-- What the effective demands stand above their floors sums to what the demands exceed the floors by. -/
theorem excess_sum (owners : List (Nat × Nat)) : (owners.map fun o => effectiveDemand o - o.2).sum
    = (owners.map effectiveDemand).sum - (owners.map Prod.snd).sum := by
  have hsplit : effectiveDemand = fun o => (effectiveDemand o - o.2) + o.2 :=
    funext fun o => (Nat.sub_add_cancel (floor_le_effectiveDemand o)).symm
  have hsum : (owners.map effectiveDemand).sum
      = (owners.map fun o => effectiveDemand o - o.2).sum + (owners.map Prod.snd).sum := by
    conv_lhs => rw [hsplit]
    exact List.sum_map_add
  omega

theorem shareOf_floorsFit (hd : budget < (owners.map effectiveDemand).sum) (hf : (owners.map Prod.snd).sum ≤ budget)
    (o : Nat × Nat) : shareOf budget owners o = o.2 + (budget - (owners.map Prod.snd).sum) * (effectiveDemand o - o.2)
      / (owners.map fun x => effectiveDemand x - x.2).sum := by
  rw [excess_sum]
  exact (if_neg (Nat.not_le.mpr hd)).trans (if_pos hf)

theorem floors_le_demands (owners : List (Nat × Nat)) :
    (owners.map Prod.snd).sum ≤ (owners.map effectiveDemand).sum :=
  List.sum_le_sum fun o _ => floor_le_effectiveDemand o

theorem shareOf_floorsExceed (hf : budget < (owners.map Prod.snd).sum) (o : Nat × Nat) :
    shareOf budget owners o = o.2 * budget / (owners.map Prod.snd).sum :=
  (if_neg (Nat.not_le.mpr (hf.trans_le (floors_le_demands owners)))).trans (if_neg (Nat.not_le.mpr hf))

/-- The shares of the owners considered spend the budget but for less than one unit each (R165): in each case they are a base
and a rounded-down part, in proportion to a weight, of what the bases leave. -/
theorem shares_spend (hne : owners ≠ []) : (owners.map (shareOf budget owners)).sum ≤ budget
    ∧ budget < (owners.map (shareOf budget owners)).sum + owners.length := by
  by_cases hd : (owners.map effectiveDemand).sum ≤ budget
  · have hcount : (owners.map fun _ => 1).sum = owners.length := by simp
    refine baseAndParts_spend (weight := fun _ => 1) hd (hcount ▸ List.length_pos_iff.mpr hne) fun o => ?_
    rw [shareOf_demandsFit hd, hcount, Nat.mul_one]
  · rw [Nat.not_le] at hd
    by_cases hf : (owners.map Prod.snd).sum ≤ budget
    · have hexcess : 0 < (owners.map fun o => effectiveDemand o - o.2).sum := by rw [excess_sum]; omega
      exact baseAndParts_spend hf hexcess (shareOf_floorsFit hd hf)
    · rw [Nat.not_le] at hf
      have hbase : (owners.map fun _ => 0).sum = 0 := by simp
      refine baseAndParts_spend (base := fun _ => 0) (hbase.trans_le (Nat.zero_le _)) (Nat.zero_lt_of_lt hf) fun o => ?_
      rw [shareOf_floorsExceed hf, hbase, Nat.zero_add, Nat.sub_zero, Nat.mul_comm]

end

/-! ## The admission tick (R168) -/

theorem exec_admissionTick {s : State} (hr : running s) (ht : s.sau.ticking = true) :
    exec .admissionTick s = .next (if s.ou.role = .owner then creditTick s else s) := by
  have hf : (if s.sau.ticking ∧ s.ou.role = .owner then creditTick s else s)
      = if s.ou.role = .owner then creditTick s else s := by simp only [ht, true_and]
  change execAdmissionTick s = _
  rw [execAdmissionTick, whenRunning_running hr (by rw [hf]; split <;> simp), hf]

/-- Settles O35: the share by its case, the shares against the budget, and the credit at a tick. -/
theorem sharesKeepBudgetAndRaiseCredit : Obligations.SharesKeepBudgetAndRaiseCredit := by
  refine ⟨fun budget owners => ⟨fun o => ⟨fun hd => shareOf_demandsFit hd o, fun hd hf => shareOf_floorsFit hd hf o,
    fun hf => shareOf_floorsExceed hf o⟩, ?neverPast, fun hne => (shares_spend hne).2⟩, fun s => exec_admissionTick⟩
  case neverPast =>
    by_cases hne : owners = []
    · simp [hne]
    · exact (shares_spend hne).1

end Sys2Proof.Machine

/-! # Proofs: the configuration fetch (R177 to R184, R192) -/

namespace Sys2Proof.Machine

/-! ## Commands that a fetch waits for -/

/-- The completion of the transaction or wait a fetch stands at has its effect, when that leaves nothing on its way. -/
theorem whenRunning_fetchAt {f : State → State} {g : FetchStage} {s : State} (hr : running s)
    (hs : s.loader.state ≠ .complete) (hg : s.loader.stage = g) (hw : (f s).waiting = s.waiting) :
    whenRunning (fun s => if fetchAt g s then f s else s) s = .next (f s) := by
  have hf : (if fetchAt g s then f s else s) = f s := if_pos (fetchAt_iff.mpr ⟨hg, hs⟩)
  rw [whenRunning_running hr (by rw [hf, hw]), hf]

/-- A header read of a running station that awaits it (R181). -/
theorem exec_headerRead {d : List Byte} {s t : State} (hr : running s) (hg : s.loader.stage = .headerRead)
    (hs : s.loader.state ≠ .complete) (ht : takeHeader d s = t) (hw : t.waiting = s.waiting) :
    exec (.headerRead d) s = .next t := by
  subst ht
  exact whenRunning_fetchAt (f := takeHeader d) hr hs hg hw

/-- The retry timer's end begins a fresh fetch (R184). -/
theorem exec_retryTimerExpiry {n : Nat} {s : State} (hr : running s) (hs : s.loader.state = .configFault)
    (ht : s.loader.retryTimer = some n) : exec .retryTimerExpiry s = .next (retryFetch s) := by
  have hf : (if s.loader.retryTimer.isSome ∧ s.loader.state = .configFault then retryFetch s else s) = retryFetch s :=
    if_pos ⟨by simp [ht], hs⟩
  exact (whenRunning_running
    (f := fun s => if s.loader.retryTimer.isSome ∧ s.loader.state = .configFault then retryFetch s else s) hr
    (by rw [hf]; rfl)).trans (congrArg _ hf)

/-! ## The configuration memory port (R179) -/

/-- The data output at the rising clock edges, at which the memory samples it. -/
def risingOutputs (levels : List PortLevels) : List (Option Bool) :=
  (levels.filter PortLevels.clockHigh).map PortLevels.dataOut

@[simp] theorem risingOutputs_append (l m : List PortLevels) :
    risingOutputs (l ++ m) = risingOutputs l ++ risingOutputs m := by simp [risingOutputs]

theorem risingOutputs_length (l : List PortLevels) : (risingOutputs l).length = (l.filter PortLevels.clockHigh).length :=
  List.length_map _

theorem risingOutputs_byteDriven (b : Byte) : risingOutputs (byteDriven b) = (byteBits b).map some := rfl

theorem risingOutputs_driven (bytes : List Byte) :
    risingOutputs (bytes.flatMap byteDriven) = bytes.flatMap fun b => (byteBits b).map some := by
  induction bytes with
  | nil => rfl
  | cons b bytes ih => rw [List.flatMap_cons, risingOutputs_append, ih, risingOutputs_byteDriven, List.flatMap_cons]

theorem risingOutputs_driven_length (bytes : List Byte) :
    (risingOutputs (bytes.flatMap byteDriven)).length = 8 * bytes.length := by
  rw [risingOutputs_driven]
  simp [byteBits, List.length_flatMap, Nat.mul_comm]

theorem risingOutputs_clocked_length (n : Nat) :
    (risingOutputs (List.replicate n byteClocked).flatten).length = 8 * n := by
  induction n with
  | zero => rfl
  | succ n ih =>
    have hbyte : (risingOutputs byteClocked).length = 8 := rfl
    rw [List.replicate_succ, List.flatten_cons, risingOutputs_append, List.length_append, ih, hbyte]
    omega

theorem byteDriven_selectLow {b : Byte} {p : PortLevels} (h : p ∈ byteDriven b) : p.selectLow = true := by
  simp only [byteDriven, bitOnPort, List.mem_flatMap, List.mem_cons, List.not_mem_nil, or_false] at h
  obtain ⟨v, -, rfl | rfl⟩ := h <;> rfl

theorem byteClocked_selectLow : ∀ p ∈ byteClocked, p.selectLow = true := by decide

/-- The port over the bytes of a stage's transaction, before the select line goes high again. -/
def portBusy (n : Nat) (stage : FetchStage) (data : List Byte) : List PortLevels :=
  (portBytes stage).flatMap byteDriven ++ (List.replicate (dataBytes n stage data) byteClocked).flatten

theorem portLevels_eq (n : Nat) (stage : FetchStage) (data : List Byte) :
    portLevels n stage data = portBusy n stage data ++ [portAtRest] := rfl

theorem portBusy_selectLow {n : Nat} {stage : FetchStage} {data : List Byte} {p : PortLevels}
    (h : p ∈ portBusy n stage data) : p.selectLow = true := by
  rcases List.mem_append.mp h with hdriven | hread
  · obtain ⟨b, -, hb⟩ := List.mem_flatMap.mp hdriven
    exact byteDriven_selectLow hb
  · obtain ⟨l, hl, hp⟩ := List.mem_flatten.mp hread
    exact byteClocked_selectLow p (List.eq_of_mem_replicate hl ▸ hp)

theorem portBusy_clocks (n : Nat) (stage : FetchStage) (data : List Byte) :
    ((portBusy n stage data).filter PortLevels.clockHigh).length
      = 8 * ((portBytes stage).length + dataBytes n stage data) := by
  rw [← risingOutputs_length, portBusy, risingOutputs_append, List.length_append, risingOutputs_driven_length,
    risingOutputs_clocked_length, Nat.mul_add]

/-- The first clocks of a transaction carry the bytes the part drives. -/
theorem portBusy_outputs (n : Nat) (stage : FetchStage) (data : List Byte) :
    (risingOutputs (portBusy n stage data)).take (8 * (portBytes stage).length)
      = (portBytes stage).flatMap fun b => (byteBits b).map some := by
  rw [portBusy, risingOutputs_append, List.take_left' (risingOutputs_driven_length _), risingOutputs_driven]

/-- A 24-bit address is driven as its three bytes. -/
theorem addressBytes_value {a : Nat} (h : a < 16777216) :
    a = 65536 * (byte1 (a / 65536)).toNat + 256 * (byte1 (a / 256 % 256)).toNat + (byte1 (a % 256)).toNat := by
  simp only [byte1, BitVec.toNat_ofNat]
  omega

theorem recordKindOfCode_eq_none {code : Nat} : recordKindOfCode code = none ↔ code = 0 ∨ 4 < code := by
  match code with
  | 0 | 1 | 2 | 3 | 4 => simp [recordKindOfCode]
  | k + 5 => exact iff_of_true rfl (.inr (by omega))

/-- A header with the format word and a possible image length is read whole (R181). -/
theorem dataBytes_header (n : Nat) {data : List Byte} (hformat : u16At data 0 = 0x4C31) (hlen : 8 ≤ u24At data 2) :
    dataBytes n .headerRead data = 8 :=
  (if_neg (not_not.mpr hformat)).trans (if_neg (Nat.not_lt.mpr hlen))

/-- A record of a known kind within the image is read whole (R182). -/
theorem dataBytes_record {n a : Nat} {data : List Byte} (hlow : 1 ≤ u8At data 0) (hhigh : u8At data 0 ≤ 4)
    (hfits : a + (6 + u16At data 1 + 2) ≤ n) : dataBytes n (.recordRead a) data = 6 + u16At data 1 + 2 :=
  if_neg (by rw [recordKindOfCode_eq_none]; omega)

/-- Settles O4: each command moves the stage alone, and the port's levels are those of its bytes one after another. -/
theorem fetchRunsItsTransactions : Obligations.FetchRunsItsTransactions := by
  refine ⟨fun s hr hs => ⟨fun hg => ⟨by rw [hg]; rfl, ?enable⟩, fun hg => ⟨by rw [hg]; rfl, ?command⟩,
    fun hg => ⟨by rw [hg]; rfl, ?wait, rfl⟩⟩, fun s n hr hs ht => exec_retryTimerExpiry hr hs ht,
    fun n stage data _ => ⟨portBusy n stage data, portLevels_eq n stage data, fun p => portBusy_selectLow,
      portBusy_clocks n stage data, ?outputs⟩,
    fun a ha => ⟨_, _, _, rfl, addressBytes_value ha⟩, fun n data => dataBytes_header n,
    fun n a data => dataBytes_record⟩
  case enable => exact whenRunning_fetchAt (f := fetchTo .resetCommand) hr hs hg rfl
  case command => exact whenRunning_fetchAt (f := fetchTo .recoveryWait) hr hs hg rfl
  case wait => exact whenRunning_fetchAt (f := fetchTo .headerRead) hr hs hg rfl
  case outputs => exact List.map_take.trans (portBusy_outputs n stage data)

/-! ## The chain walk (R181, R182) -/

/-- The straps as a number, the first strap its most significant bit (R177). -/
theorem straps_value : ∀ straps : BitVec 4, (Fin.ofNat 16 straps.toNat).val
    = 8 * (straps.getLsbD 3).toNat + 4 * (straps.getLsbD 2).toNat + 2 * (straps.getLsbD 1).toNat
      + (straps.getLsbD 0).toNat := by decide

/-- The bytes that are a good record (R182). -/
theorem readRecord_eq_some {n a : Nat} {d : List Byte} {r : Record} : readRecord n a d = some r ↔
    recordKindOfCode (u8At d 0) = some r.kind ∧ a + (6 + u16At d 1 + 2) ≤ n
      ∧ crc16 (bytesAt d 0 (6 + u16At d 1)) = sigAt d (6 + u16At d 1) ∧ r.payload = bytesAt d 6 (u16At d 1) := by
  obtain ⟨kind, payload⟩ := r
  unfold readRecord
  cases recordKindOfCode (u8At d 0) with
  | none => simp
  | some k =>
    simp only [Option.ite_none_right_eq_some, Option.some.injEq, Record.mk.injEq]
    tauto

/-- The bytes that are no good record (R182). -/
theorem readRecord_eq_none {n a : Nat} {d : List Byte} : readRecord n a d = none ↔
    u8At d 0 = 0 ∨ 4 < u8At d 0 ∨ n < a + (6 + u16At d 1 + 2)
      ∨ crc16 (bytesAt d 0 (6 + u16At d 1)) ≠ sigAt d (6 + u16At d 1) := by
  rw [← or_assoc, ← recordKindOfCode_eq_none]
  unfold readRecord
  cases recordKindOfCode (u8At d 0) with
  | none => simp
  | some k => simp [imp_iff_not_or]

theorem headerGood_iff {d : List Byte} : headerGood d = true ↔ u16At d 0 = 0x4C31 ∧ 8 ≤ u24At d 2
    ∧ (u24At d 5 = 0 ∨ (8 ≤ u24At d 5 ∧ u24At d 5 < u24At d 2)) := by
  simp [headerGood]

theorem walkTo_within {a : Nat} {s : State} (hlow : 8 ≤ a) (hhigh : a < s.loader.imageLength) :
    walkTo a s = fetchTo (.recordRead a) s :=
  (if_neg (by omega)).trans (if_pos ⟨hlow, hhigh⟩)

theorem walkTo_outside {a : Nat} {s : State} (hne : a ≠ 0) (h : a < 8 ∨ s.loader.imageLength ≤ a) :
    walkTo a s = structuralFault s :=
  (if_neg hne).trans (if_neg (by omega))

/-- The walk's end at an image that fails the record checks (R183). -/
theorem walkTo_faulty {s : State} (h : imageFaulty s.loader.kept) : walkTo 0 s = structuralFault s :=
  if_neg fun hsound => (recordsSound_iff _).mp hsound h

/-- No record kept is a missing STATION record (R183). -/
theorem imageFaulty_nil : imageFaulty [] := .inl (by decide)

/-- A header read with a first record address starts the walk there (R181). -/
theorem takeHeader_records {d : List Byte} {s : State} (hformat : u16At d 0 = 0x4C31) (hlen : 8 ≤ u24At d 2)
    (hlow : 8 ≤ u24At d 5) (hhigh : u24At d 5 < u24At d 2) : takeHeader d s = { s with loader := { s.loader with
      imageLength := u24At d 2, stage := .recordRead (u24At d 5) } } :=
  (if_pos (headerGood_iff.mpr ⟨hformat, hlen, .inr ⟨hlow, hhigh⟩⟩)).trans (walkTo_within hlow hhigh)

/-- A good record is counted and kept, and the walk goes on unless it is the 41st (R182). -/
theorem takeRecordRead_good {a : Nat} {d : List Byte} {r : Record} {s : State}
    (hread : readRecord s.loader.imageLength a d = some r) : takeRecordRead a d s =
      if 40 ≤ s.loader.recordCount then structuralFault (withRecord r s) else walkTo (u24At d 3) (withRecord r s) := by
  have hcount : 41 ≤ (withRecord r s).loader.recordCount ↔ 40 ≤ s.loader.recordCount := Nat.succ_le_succ_iff
  calc takeRecordRead a d s
      = keepRecord r (nextRecordAddress d) s := by simp [takeRecordRead, hread]
    _ = if 41 ≤ (withRecord r s).loader.recordCount then structuralFault (withRecord r s)
        else walkTo (u24At d 3) (withRecord r s) := rfl
    _ = _ := by simp only [hcount]

/-- A good record with a next-record address within the image (R182). -/
theorem takeRecordRead_next {a : Nat} {d : List Byte} {r : Record} {s : State}
    (hread : readRecord s.loader.imageLength a d = some r) (hcount : s.loader.recordCount < 40) (hlow : 8 ≤ u24At d 3)
    (hhigh : u24At d 3 < s.loader.imageLength) :
    takeRecordRead a d s = fetchTo (.recordRead (u24At d 3)) (withRecord r s) := by
  rw [takeRecordRead_good hread, if_neg (Nat.not_le.mpr hcount)]
  exact walkTo_within hlow hhigh

/-- Settles O5: the straps bit by bit, and the walk from the header and from a good record. -/
theorem fetchBeginsAndWalksChain : Obligations.FetchBeginsAndWalksChain := by
  refine ⟨fun straps s hlow => ⟨Fin.ofNat 16 straps.toNat, straps_value straps, if_pos hlow⟩, ?header, ?record⟩
  case header =>
    intro d s hr hs hg hformat hlen hlow hhigh
    exact exec_headerRead hr hg hs (takeHeader_records hformat hlen hlow hhigh) rfl
  case record =>
    intro d a r s hr hs hg hkind hfits hcrc hpayload hcount hlow hhigh
    have hread : readRecord s.loader.imageLength a d = some r := readRecord_eq_some.mpr ⟨hkind, hfits, hcrc, hpayload⟩
    exact exec_recordRead hr hg hs (takeRecordRead_next hread hcount hlow hhigh) rfl

/-! ## Structural faults (R184, R192) -/

theorem structuralFault_eq (s : State) : structuralFault s = { s with
    loader := { s.loader with
      state := .configFault, stage := .idle, imageLength := 0, kept := [], retryTimer := some 2000 }
    iu := (structuralFault s).iu } :=
  refreshLamp_eq _

@[simp] theorem structuralFault_waiting (s : State) : (structuralFault s).waiting = s.waiting := by
  rw [structuralFault_eq]

/-- In CONFIG_FAULT the double flash comes before every other pattern (R189). -/
theorem basePattern_configFault {s : State} (h : s.loader.state = .configFault) : basePattern s = .doubleFlash :=
  if_pos (.inl h)

theorem structuralFault_pattern (s : State) : (structuralFault s).iu.pattern = .doubleFlash :=
  (refreshLamp_pattern _).trans (basePattern_configFault rfl)

/-- A flash ends when the double flash is chosen, and goes on where it is shown already (R191). -/
theorem refreshLamp_flash {s : State} (h : basePattern s = .doubleFlash) :
    (refreshLamp s).iu.flash = if s.iu.pattern = .doubleFlash then s.iu.flash else none := by
  unfold refreshLamp
  rw [h]
  by_cases hp : s.iu.pattern = .doubleFlash
  · rw [if_pos hp.symm, if_pos hp]
  · rw [if_neg (Ne.symm hp), if_neg hp, if_pos rfl]

theorem structuralFault_flash (s : State) :
    (structuralFault s).iu.flash = if s.iu.pattern = .doubleFlash then s.iu.flash else none :=
  refreshLamp_flash (basePattern_configFault rfl)

theorem structuralFault_asserted (s : State) : faultAsserted (structuralFault s) = true := by
  rw [structuralFault_eq]
  simp [faultAsserted]

/-- `t` is `s` but for what the present fetch has read, which a fault discards, and for `n` more records counted. -/
def hasRead (n : Nat) (s t : State) : Prop :=
  t = { s with loader := { s.loader with
    imageLength := t.loader.imageLength, kept := t.loader.kept, recordCount := s.loader.recordCount + n } }

theorem hasRead_refl (s : State) : hasRead 0 s s := rfl

theorem hasRead_withRecord (r : Record) (s : State) : hasRead 1 s (withRecord r s) := rfl

/-- What a fault leaves after the fetch has read on (R184; assumption log 19). -/
theorem structuralFault_hasRead {n : Nat} {s u : State} (h : hasRead n s u) : structuralFault u = { s with
    loader := { s.loader with
      state := .configFault, stage := .idle, imageLength := 0, kept := [],
      recordCount := s.loader.recordCount + n, retryTimer := some 2000 }
    iu := (structuralFault u).iu } := by
  refine (structuralFault_eq u).trans ?_
  generalize (structuralFault u).iu = i
  rw [h]

theorem hasRead.iu {n : Nat} {s u : State} (h : hasRead n s u) : u.iu = s.iu := by rw [h]

theorem hasRead.waiting {n : Nat} {s u : State} (h : hasRead n s u) : u.waiting = s.waiting := by rw [h]

/-- A header that is not good, or names no record, is a structural fault (R181, R183). -/
theorem takeHeader_faulty {d : List Byte} {s : State} (hkept : s.loader.kept = [])
    (h : u16At d 0 ≠ 0x4C31 ∨ u24At d 2 < 8 ∨ u24At d 5 < 8 ∨ u24At d 2 ≤ u24At d 5) :
    ∃ u, hasRead 0 s u ∧ takeHeader d s = structuralFault u := by
  unfold takeHeader
  split
  case isFalse => exact ⟨s, hasRead_refl s, rfl⟩
  case isTrue hgood =>
    rw [headerGood_iff] at hgood
    have hnone : u24At d 5 = 0 := by omega
    refine ⟨{ s with loader := { s.loader with imageLength := u24At d 2 } }, rfl, ?_⟩
    rw [hnone]
    exact walkTo_faulty (by rw [hkept]; exact imageFaulty_nil)

theorem takeRecordRead_bad {a : Nat} {d : List Byte} {s : State} (h : readRecord s.loader.imageLength a d = none) :
    takeRecordRead a d s = structuralFault s := by simp [takeRecordRead, h]

/-- A good record is a structural fault as the 41st, for its next-record address, and as the last of a faulty image (R182,
R183). -/
theorem takeRecordRead_faulty {a : Nat} {d : List Byte} {r : Record} {s : State}
    (hread : readRecord s.loader.imageLength a d = some r)
    (h : 40 ≤ s.loader.recordCount ∨ (u24At d 3 ≠ 0 ∧ (u24At d 3 < 8 ∨ s.loader.imageLength ≤ u24At d 3))
      ∨ (u24At d 3 = 0 ∧ imageFaulty (s.loader.kept ++ [r]))) :
    takeRecordRead a d s = structuralFault (withRecord r s) := by
  rw [takeRecordRead_good hread]
  split
  case isTrue => rfl
  case isFalse hcount =>
    rcases h with hfull | ⟨hne, hout⟩ | ⟨hend, himage⟩
    · exact absurd hfull hcount
    · exact walkTo_outside hne hout
    · rw [hend]; exact walkTo_faulty himage

/-- Settles O6: every case is a structural fault after the fetch has read on, and a fault does the same from each. -/
theorem structuralFaultEndsFetch : Obligations.StructuralFaultEndsFetch := by
  intro c d counted s hr hs len next hcase
  suffices h : ∃ u, hasRead counted s u ∧ exec c s = .next (structuralFault u) by
    obtain ⟨u, hu, hexec⟩ := h
    exact ⟨structuralFault u, hexec, structuralFault_hasRead hu, structuralFault_pattern u,
      hu.iu ▸ structuralFault_flash u, structuralFault_asserted u⟩
  rcases hcase with ⟨rfl, rfl, hg, hkept, hbad⟩ | ⟨rfl, rfl, a, hg, hbad⟩
    | ⟨rfl, rfl, a, r, hg, hkind, hfits, hcrc, hpayload, hbad⟩
  case inl =>
    obtain ⟨u, hu, hfault⟩ := takeHeader_faulty hkept hbad
    exact ⟨u, hu, exec_headerRead hr hg hs hfault ((structuralFault_waiting u).trans hu.waiting)⟩
  case inr.inl =>
    exact ⟨s, hasRead_refl s,
      exec_recordRead hr hg hs (takeRecordRead_bad (readRecord_eq_none.mpr hbad)) (structuralFault_waiting s)⟩
  case inr.inr =>
    have hread : readRecord s.loader.imageLength a d = some r := readRecord_eq_some.mpr ⟨hkind, hfits, hcrc, hpayload⟩
    exact ⟨withRecord r s, hasRead_withRecord r s,
      exec_recordRead hr hg hs (takeRecordRead_faulty hread hbad) (structuralFault_waiting _)⟩

end Sys2Proof.Machine

/-! # Proofs: every step keeps LAMP's pattern and counts its cycles (R189, R190) -/

namespace Sys2Proof.Machine

/-! ## What the pattern is chosen by, and what a run does to it -/

/-- What the rows of R189 read, with the pattern shown and the cycles started. -/
def lampFigures (s : State) : LoaderState × Option Nat × Role × Phase × AcqState × Nat × LampPattern × Nat :=
  (s.loader.state, s.ri.clashHold, s.ou.role, s.hbu.phase, s.gau.acq, s.gau.noSignalRestarts, s.iu.pattern,
    s.iu.cycleStarts)

theorem basePattern_congr {s t : State} (h : lampFigures t = lampFigures s) : basePattern t = basePattern s := by
  simp only [lampFigures, Prod.mk.injEq] at h
  obtain ⟨hstate, hhold, hrole, hphase, hacq, hrestarts, -, -⟩ := h
  simp only [basePattern, hstate, hhold, hrole, hphase, hacq, hrestarts]

/-- Between two states no cycle is taken back, and with none started the pattern stands (R190). -/
structure CyclesOn (s t : State) : Prop where
  le : s.iu.cycleStarts ≤ t.iu.cycleStarts
  stands : t.iu.cycleStarts = s.iu.cycleStarts → t.iu.pattern = s.iu.pattern

theorem CyclesOn.same {s t : State} (h : t.iu.pattern = s.iu.pattern ∧ t.iu.cycleStarts = s.iu.cycleStarts) :
    CyclesOn s t :=
  ⟨h.2.ge, fun _ => h.1⟩

theorem CyclesOn.of_iu {s t : State} (h : t.iu = s.iu) : CyclesOn s t := .same (by rw [h]; exact ⟨rfl, rfl⟩)

theorem CyclesOn.trans {s t u : State} (h : CyclesOn s t) (h' : CyclesOn t u) : CyclesOn s u where
  le := h.le.trans h'.le
  stands he := by
    have hmid : t.iu.cycleStarts = s.iu.cycleStarts := le_antisymm (he ▸ h'.le) h.le
    exact (h'.stands (he.trans hmid.symm)).trans (h.stands hmid)

/-- A run from one state to another counts its cycles and leaves the pattern R189 gives, where it found it so. -/
structure KeepsLamp (s t : State) : Prop where
  cycles : CyclesOn s t
  pattern : s.iu.pattern = basePattern s → t.iu.pattern = basePattern t

theorem KeepsLamp.aside {s t : State} (h : lampFigures t = lampFigures s) : KeepsLamp s t := by
  have hbase := basePattern_congr h
  simp only [lampFigures, Prod.mk.injEq] at h
  obtain ⟨-, -, -, -, -, -, hpattern, hcycles⟩ := h
  exact ⟨.same ⟨hpattern, hcycles⟩, fun hs => hpattern.trans (hs.trans hbase.symm)⟩

theorem KeepsLamp.refl (s : State) : KeepsLamp s s := .aside rfl

theorem KeepsLamp.trans {s t u : State} (h : KeepsLamp s t) (h' : KeepsLamp t u) : KeepsLamp s u :=
  ⟨h.cycles.trans h'.cycles, h'.pattern ∘ h.pattern⟩

theorem keepsLamp_ite {p : Prop} [Decidable p] {s t : State} (h : KeepsLamp s t) : KeepsLamp s (if p then t else s) := by
  split
  · exact h
  · exact .refl s

/-! ## The lamp's own operations (R189 to R191) -/

theorem cyclesOn_refreshLamp (s : State) : CyclesOn s (refreshLamp s) := by
  unfold refreshLamp
  split
  · exact .of_iu rfl
  · exact ⟨Nat.le_succ _, fun h => absurd h (Nat.succ_ne_self _)⟩

/-- Whatever a command has changed, the pattern chosen again is the one R189 gives. -/
theorem keepsLamp_refreshLamp {s u : State} (h : CyclesOn s u) : KeepsLamp s (refreshLamp u) :=
  ⟨h.trans (cyclesOn_refreshLamp u), fun _ => (refreshLamp_pattern u).trans (refreshLamp_basePattern u).symm⟩

theorem keepsLamp_startFlash (s : State) : KeepsLamp s (startFlash s) := by
  refine .aside ?_
  unfold startFlash
  split <;> rfl

/-! ## Records and admission (R140, R146 to R148, R152 to R157, R170 to R173) -/

theorem keepsLamp_countDrop (c : ServiceClass) (s : State) : KeepsLamp s (countDrop c s) :=
  .aside (by cases c <;> rfl)

theorem admitEntry_clashHold (e : QueueEntry) (s : State) : (admitEntry e s).ri.clashHold = s.ri.clashHold := by
  obtain ⟨-, -, -, -, -, -, hhold, -⟩ := withQueue_riser e.cls (queueOf e.cls s.ri ++ [e]) s.ri
  exact hhold

theorem keepsLamp_admitEntry (e : QueueEntry) (s : State) : KeepsLamp s (admitEntry e s) :=
  .aside (by simp [lampFigures, admitEntry_clashHold])

theorem keepsLamp_offerRecord (e : QueueEntry) (s : State) : KeepsLamp s (offerRecord e s) :=
  .aside (by simp [lampFigures, offerRecord_clashHold])

theorem keepsLamp_offerEntries (n : Nat) (s : State) : KeepsLamp s (offerEntries n s) := by
  induction n generalizing s with
  | zero => exact .refl s
  | succ n ih =>
    unfold offerEntries
    split
    case h_1 => exact .refl s
    case h_2 e rest _ =>
      have leaves : KeepsLamp s { s with hbu := { s.hbu with ring := rest } } := .aside rfl
      split
      case h_1 => exact (leaves.trans (keepsLamp_admitEntry (queueEntry e) _)).trans (ih _)
      case h_2 =>
        have offered (u : State) : KeepsLamp u (countOffered u) := .aside rfl
        exact ((leaves.trans (keepsLamp_countDrop e.cls _)).trans (offered _)).trans (ih _)
      case h_3 => exact .refl s

theorem keepsLamp_goLive (s : State) : KeepsLamp s (goLive s) := keepsLamp_refreshLamp (.of_iu rfl)

theorem keepsLamp_drainOffer (s : State) : KeepsLamp s (drainOffer s) := by
  unfold drainOffer
  dsimp only
  split
  · exact (keepsLamp_offerEntries 2 s).trans (keepsLamp_goLive _)
  · exact keepsLamp_offerEntries 2 s

theorem keepsLamp_countRemoved (l : List RingEntry) (s : State) : KeepsLamp s (countRemoved l s) := by
  induction l generalizing s with
  | nil => exact .refl s
  | cons e l ih => exact (keepsLamp_countDrop e.cls s).trans (ih _)

theorem keepsLamp_expireRing (b : Nat) (s : State) : KeepsLamp s (expireRing b s) := by
  have left : KeepsLamp s { s with hbu := { s.hbu with ring := ringAfterExpiry b s.hbu.ring } } := .aside rfl
  unfold expireRing
  dsimp only
  split
  · exact left.trans (keepsLamp_countRemoved _ _)
  · exact left

theorem keepsLamp_placeInRing (r : RingEntry) (s : State) : KeepsLamp s (placeInRing r s) := by
  unfold placeInRing
  dsimp only
  split
  · have placed : KeepsLamp s { s with hbu := { s.hbu with ring := s.hbu.ring.drop 1 ++ [r] } } := .aside rfl
    split
    · exact placed.trans (keepsLamp_countRemoved _ _)
    · exact placed
  · exact .aside rfl

theorem keepsLamp_appendRing (r : RingEntry) (s : State) : KeepsLamp s (appendRing r s) :=
  (keepsLamp_expireRing r.stamp s).trans (keepsLamp_placeInRing r _)

theorem keepsLamp_standbyRecord (r : RingEntry) (s : State) : KeepsLamp s (standbyRecord r s) := by
  unfold standbyRecord
  split
  · exact keepsLamp_appendRing r s
  · split
    · exact .refl s
    · split
      · exact .aside rfl
      · have emptied : KeepsLamp s { s with hbu := { s.hbu with lead := [] } } := .aside rfl
        exact emptied.trans (keepsLamp_appendRing r _)

theorem keepsLamp_catchUpGap (r : RingEntry) (s : State) : KeepsLamp s (catchUpGap r s) := by
  have emptied : KeepsLamp s { s with hbu := { s.hbu with lead := [] } } := .aside rfl
  exact (emptied.trans (keepsLamp_goLive _)).trans (keepsLamp_offerRecord _ _)

theorem keepsLamp_catchUpRecord (r : RingEntry) (s : State) : KeepsLamp s (catchUpRecord r s) := by
  have counted : KeepsLamp s { s with hbu := { s.hbu with catchUpCount := s.hbu.catchUpCount + 1 } } := .aside rfl
  unfold catchUpRecord
  dsimp only
  split
  · exact counted.trans (keepsLamp_catchUpGap r _)
  · split
    · exact counted
    · split
      case h_1 rest _ =>
        split
        · exact keepsLamp_refreshLamp (.of_iu rfl)
        · exact .aside rfl
      case h_2 => exact counted.trans (keepsLamp_catchUpGap r _)

theorem keepsLamp_drainRecord (r : RingEntry) (s : State) : KeepsLamp s (drainRecord r s) := by
  have expired := keepsLamp_expireRing r.stamp s
  unfold drainRecord
  dsimp only
  split
  · exact (expired.trans (keepsLamp_goLive _)).trans (keepsLamp_offerRecord _ _)
  · exact (expired.trans (keepsLamp_placeInRing r _)).trans (keepsLamp_drainOffer _)

theorem keepsLamp_takeRecord (r : RingEntry) (s : State) : KeepsLamp s (takeRecord r s) := by
  unfold takeRecord
  split
  case h_1 | h_2 => exact keepsLamp_standbyRecord r s
  case h_3 =>
    split
    · exact keepsLamp_offerRecord _ s
    · exact keepsLamp_catchUpRecord r s
    · exact keepsLamp_drainRecord r s
    · exact .refl s
  all_goals exact .refl s

theorem keepsLamp_deliver (route : Route) (r : RingEntry) (s : State) : KeepsLamp s (deliver route r s) := by
  cases route with
  | holdBack => exact keepsLamp_takeRecord r s
  | admission => exact keepsLamp_offerRecord _ s

/-! ## Role changes (chapter 7) -/

/-- A change of role before the lamp is told of it (R99, R120, R142, R166, R167). -/
def roleChanged (r : Role) (s : State) : State :=
  let u := if s.ou.role = .owner then riserLeavesOwner r (setRole r s) else setRole r s
  requestStatus (clearAdmission { u with hbu := storesForRole r u.hbu })

/-- The lamp chooses its pattern at a change of role, and a departure from OWNER starts a flash (R189, R191). -/
theorem changeRole_lamp (r : Role) (s : State) : changeRole r s =
    if s.ou.role = .owner then startFlash (refreshLamp (roleChanged r s)) else refreshLamp (roleChanged r s) := rfl

theorem roleChanged_iu (r : Role) (s : State) : (roleChanged r s).iu = s.iu := by
  unfold roleChanged
  dsimp only
  split <;> simp

theorem keepsLamp_changeRole (r : Role) {s u : State} (h : u.iu = s.iu) : KeepsLamp s (changeRole r u) := by
  have chosen : KeepsLamp s (refreshLamp (roleChanged r u)) :=
    keepsLamp_refreshLamp (.of_iu ((roleChanged_iu r u).trans h))
  rw [changeRole_lamp]
  split
  · exact chosen.trans (keepsLamp_startFlash _)
  · exact chosen

theorem keepsLamp_enterOwner (a : Option Signature) (s : State) : KeepsLamp s (enterOwner a s) := by
  have new : CyclesOn s (newOwner a s) := .of_iu (by simp [newOwner])
  have offered : KeepsLamp (newOwner a s) (firstOffer (newOwner a s)) := keepsLamp_ite (keepsLamp_drainOffer _)
  have requested : CyclesOn s (requestStatus (firstOffer (newOwner a s))) := (new.trans offered.cycles).trans (.of_iu rfl)
  rw [enterOwner_newOwner]
  exact (keepsLamp_refreshLamp requested).trans (keepsLamp_startFlash _)

theorem keepsLamp_yieldWith (a : Option Address) (r : YieldReason) (s : State) : KeepsLamp s (yieldWith a r s) :=
  keepsLamp_changeRole .yielding rfl

theorem keepsLamp_giveUpTake (r : Role) (s : State) : KeepsLamp s (giveUpTake r s) := keepsLamp_changeRole r rfl

theorem keepsLamp_endYield (s : State) : KeepsLamp s (endYield s) := keepsLamp_ite (keepsLamp_changeRole _ rfl)

theorem keepsLamp_fallRole (s : State) : KeepsLamp s (fallRole s) := by
  rcases falls_or_stays s.ou.role with h | h
  · rw [fallRole_falls h]
    exact keepsLamp_changeRole _ rfl
  · rw [fallRole_stays h]
    exact .aside rfl

theorem keepsLamp_addressClash (s : State) : KeepsLamp s (addressClash s) := by
  have held : KeepsLamp s (clashHeld s) := keepsLamp_refreshLamp (.of_iu (by simp [lineCut]))
  rw [addressClash_eq]
  exact held.trans (keepsLamp_fallRole _)

/-- The end of a transmission leaves the lamp's rows (R101). -/
theorem keepsLamp_endTransmission (s : State) : KeepsLamp s (endTransmission s) := by
  unfold endTransmission
  split
  case h_6 h _ _ => exact (keepsLamp_countDrop h.cls s).trans (.aside rfl)
  all_goals exact .aside rfl

theorem keepsLamp_lineCut (s : State) : KeepsLamp s (lineCut s) := by
  obtain ⟨-, -, -, -, -, -, hhold⟩ := emptyQueues_riser (emptySlots (endTransmission s))
  have hline : (lineCut s).ri.clashHold = (endTransmission s).ri.clashHold := hhold
  have emptied : KeepsLamp (endTransmission s) (lineCut s) := .aside (by simp only [lampFigures, hline]; simp [lineCut])
  exact (keepsLamp_endTransmission s).trans emptied

theorem keepsLamp_silenceStation (s : State) : KeepsLamp s (silenceStation s) := by
  rw [silenceStation_eq]
  exact (keepsLamp_lineCut s).trans (keepsLamp_fallRole _)

theorem cyclesOn_roleAtAcqChange (new : AcqState) (s : State) : CyclesOn s (roleAtAcqChange new s) := by
  suffices h : KeepsLamp s (roleAtAcqChange new s) from h.cycles
  unfold roleAtAcqChange
  split
  case h_1 | h_2 => exact keepsLamp_ite (keepsLamp_changeRole _ rfl)
  case h_3 => split; exacts [.refl s, keepsLamp_giveUpTake _ s]
  case h_4 =>
    split
    · exact keepsLamp_yieldWith _ _ s
    · split
      · split; exacts [.refl s, keepsLamp_yieldWith _ _ s]
      · exact .refl s
  case h_5 => exact .refl s

/-! ## Changes of the acquisition state (R1 to R16) -/

/-- A change of the acquisition state ends with the lamp's choice. -/
theorem keepsLamp_changeAcq (new : AcqState) {s u : State} (h : u.iu = s.iu) : KeepsLamp s (changeAcq new u) := by
  unfold changeAcq
  dsimp only
  split
  · exact keepsLamp_refreshLamp (.of_iu h)
  · refine keepsLamp_refreshLamp ?_
    exact (CyclesOn.of_iu (t := acqSet new u) h).trans (cyclesOn_roleAtAcqChange new _)

theorem keepsLamp_reportCause (c : Cause) {s u : State} (h : KeepsLamp s u) : KeepsLamp s (reportCause c u) := by
  have recorded : KeepsLamp u (recordCause c u) := .aside rfl
  unfold reportCause
  dsimp only
  split
  · exact (h.trans recorded).trans (keepsLamp_changeAcq .hold rfl)
  · exact h.trans recorded

theorem keepsLamp_gainMeasured (e : Option Int) (s : State) : KeepsLamp s (gainMeasured e s) := by
  rw [gainMeasured_eq]
  split
  · exact keepsLamp_changeAcq .symbol rfl
  · split
    · exact keepsLamp_changeAcq .gain rfl
    · exact .aside rfl

theorem keepsLamp_clipMeasured (step : Int) (s : State) : KeepsLamp s (clipMeasured step s) := by
  unfold clipMeasured
  split
  · split
    · exact keepsLamp_reportCause _ (.aside rfl)
    · exact .aside rfl
  · exact .aside rfl

theorem keepsLamp_takeMeasurement (s : State) : KeepsLamp s (takeMeasurement s) := by
  have void : KeepsLamp s (voidMeasured s) := .aside rfl
  have full : KeepsLamp s (fullyMeasured s) := by
    obtain ⟨_, -, h⟩ := fullyMeasured_eq s
    rw [h]
    exact .aside rfl
  cases hv : blockVoid s.gau with
  | true =>
    rw [takeMeasurement_void hv]
    split
    · exact void.trans (keepsLamp_gainMeasured _ _)
    · exact void
  | false =>
    rw [takeMeasurement_full hv]
    split
    · exact full.trans (keepsLamp_gainMeasured _ _)
    · split
      · exact full.trans (keepsLamp_clipMeasured _ _)
      · exact full

theorem keepsLamp_measureIfDue (s : State) : KeepsLamp s (measureIfDue s) := keepsLamp_ite (keepsLamp_takeMeasurement s)

theorem keepsLamp_endTrialIfDue (s : State) : KeepsLamp s (endTrialIfDue s) := by
  refine keepsLamp_ite ?_
  unfold takeTrialEnd failTrial
  dsimp only
  split
  · exact keepsLamp_changeAcq .frame rfl
  · split
    · exact keepsLamp_changeAcq .gain rfl
    · exact .aside rfl

theorem keepsLamp_countPass {s u : State} (h : lampFigures u = lampFigures s) : KeepsLamp s (countPass u) := by
  refine (KeepsLamp.aside h).trans ?_
  unfold countPass
  dsimp only
  split
  · exact keepsLamp_changeAcq .symbol rfl
  · exact .aside rfl

theorem keepsLamp_takePass (s : State) : KeepsLamp s (takePass s) := keepsLamp_countPass rfl

theorem keepsLamp_takeHoldLimit (s : State) : KeepsLamp s (takeHoldLimit s) := keepsLamp_changeAcq .symbol rfl

theorem keepsLamp_settleFrameCounts (s : State) : KeepsLamp s (settleFrameCounts s) := by
  unfold settleFrameCounts
  split
  · exact keepsLamp_takePass s
  · exact keepsLamp_ite (keepsLamp_takeHoldLimit s)

theorem keepsLamp_takeSyncFound (s : State) : KeepsLamp s (takeSyncFound s) := by
  have pass : KeepsLamp s (settlePass s) := keepsLamp_ite (keepsLamp_takePass s)
  exact pass.trans (keepsLamp_ite (.aside rfl))

theorem keepsLamp_signallingChanged (g : Signalling) (s : State) : KeepsLamp s (signallingChanged g s) :=
  keepsLamp_changeAcq .frame rfl

theorem keepsLamp_checkInConfirm (r : FrameReport) (s : State) : KeepsLamp s (checkInConfirm r s) := by
  unfold checkInConfirm
  split
  · split
    · exact keepsLamp_countPass rfl
    · split
      · exact keepsLamp_changeAcq .track rfl
      · exact keepsLamp_countPass rfl
  · exact keepsLamp_countPass rfl

theorem keepsLamp_checkInTrack (r : FrameReport) (s : State) : KeepsLamp s (checkInTrack r s) := by
  unfold checkInTrack
  split
  · split
    · exact .aside rfl
    · split
      · exact .aside rfl
      · exact keepsLamp_signallingChanged _ s
  · split
    · exact keepsLamp_changeAcq .hold rfl
    · exact .aside rfl

theorem keepsLamp_checkInHold (r : FrameReport) (s : State) : KeepsLamp s (checkInHold r s) := by
  unfold checkInHold
  split
  · split
    · exact keepsLamp_changeAcq .track rfl
    · split
      · exact keepsLamp_changeAcq .track rfl
      · exact keepsLamp_signallingChanged _ s
  · exact .refl s

theorem keepsLamp_takeFrameCheck (r : FrameReport) (s : State) : KeepsLamp s (takeFrameCheck r s) := by
  unfold takeFrameCheck
  split
  case h_1 =>
    split
    · exact keepsLamp_checkInConfirm r s
    · exact .refl s
  case h_2 => exact keepsLamp_checkInTrack r s
  case h_3 => exact keepsLamp_checkInHold r s
  all_goals exact .refl s

/-! ## Attempts, boundaries and samples (R21, R22, R38, R39, R44, R48 to R50, R91) -/

theorem keepsLamp_attempt (s : State) : KeepsLamp s (attempt s) := by
  rcases attempt_cases s with h | ⟨sel, -, -, -, h⟩ <;> rw [h]
  · exact .refl s
  · exact .aside rfl

theorem keepsLamp_blankerBoundary (s : State) : KeepsLamp s (blankerBoundary s) := by
  unfold blankerBoundary
  split
  · exact .refl s
  · split
    · exact .aside rfl
    · rw [closeSymbol_eq]
      split
      · exact keepsLamp_reportCause _ (.aside rfl)
      · exact .aside rfl

theorem keepsLamp_windowBoundary (b : Bool) (s : State) : KeepsLamp s (windowBoundary b s) := by
  rcases windowBoundary_cases b s with h | h | ⟨-, h⟩
  all_goals rw [h]
  · exact .refl s
  · exact .aside rfl
  · exact keepsLamp_reportCause _ (.aside rfl)

theorem gauBoundary_noSignalRestarts (g : Gau) : (gauBoundary g).noSignalRestarts = g.noSignalRestarts := by
  unfold gauBoundary
  split
  case h_1 => split <;> rfl
  all_goals rfl

theorem keepsLamp_takeBoundary (b : Bool) (s : State) : KeepsLamp s (takeBoundary b s) := by
  have count : KeepsLamp s (counted s) := .aside (by simp [lampFigures, counted, gauBoundary_noSignalRestarts])
  cases b with
  | true => exact count.trans ((keepsLamp_windowBoundary _ _).trans (keepsLamp_blankerBoundary _))
  | false => exact count.trans ((keepsLamp_blankerBoundary _).trans (keepsLamp_windowBoundary _ _))

theorem keepsLamp_boundaryEvent (b : Bool) (s : State) : KeepsLamp s (boundaryEvent b s) := by
  unfold boundaryEvent
  dsimp only
  split
  · exact (keepsLamp_settleFrameCounts s).trans (keepsLamp_takeBoundary b _)
  · exact keepsLamp_settleFrameCounts s

theorem keepsLamp_boundaryBefore (b : Bool) (s : State) : KeepsLamp s (boundaryBefore b s) :=
  keepsLamp_ite ((keepsLamp_boundaryEvent true s).trans (keepsLamp_attempt _))

theorem keepsLamp_settleSamples (s : State) : KeepsLamp s (settleSamples s) := by
  have blanker : KeepsLamp s { s with ib := settleBlanker s.cfg.runEnd s.ib } := .aside rfl
  exact blanker.trans <| (keepsLamp_measureIfDue _).trans <| (keepsLamp_endTrialIfDue _).trans <|
    (keepsLamp_boundaryEvent true _).trans (keepsLamp_settleFrameCounts _)

theorem keepsLamp_takeSample (d : Sample) (s : State) : KeepsLamp s (takeSample d s) := by
  have sampled (b : Bool) (out : Sample) : (gauSample b out s.gau).noSignalRestarts = s.gau.noSignalRestarts := by
    unfold gauSample
    dsimp only
    split <;> rfl
  unfold takeSample
  dsimp only
  split
  · exact .aside rfl
  · exact .aside (by simp [lampFigures, sampled])

/-! ## Decoded packets and what waits (R57 to R63, R77 to R81, R148, R170) -/

theorem keepsLamp_settleRecord (s : State) : KeepsLamp s (settleRecord s) := by
  unfold settleRecord
  split
  · exact .refl s
  case h_2 route r _ =>
    have taken : KeepsLamp s { s with waiting := { s.waiting with record := none } } := .aside rfl
    exact taken.trans (keepsLamp_deliver route r _)

theorem keepsLamp_settleBurst (s : State) : KeepsLamp s (settleBurst s) :=
  keepsLamp_ite (keepsLamp_reportCause _ (.aside rfl))

theorem keepsLamp_takeWaiting (s : State) : KeepsLamp s (takeWaiting s) := by
  unfold takeWaiting
  split
  · exact .refl s
  · exact ((keepsLamp_settleRecord s).trans (keepsLamp_settleBurst _)).trans (keepsLamp_attempt _)

theorem keepsLamp_handOn (later : Bool) (r : RingEntry) (s : State) : KeepsLamp s (handOn later r s) := by
  unfold handOn
  split
  · exact .refl s
  case h_2 route _ =>
    split
    · exact .aside rfl
    · exact keepsLamp_deliver route r s

theorem keepsLamp_lookup (later : Bool) (r : PacketRecord) (s : State) : KeepsLamp s (lookup later r s) := by
  unfold lookup
  split
  · exact .refl s
  · split
    · exact .refl s
    case h_2 e _ =>
      split
      · exact keepsLamp_countDrop e.cls s
      · have marked : KeepsLamp s { s with services := markUse r.inputId s.services } := .aside rfl
        exact marked.trans (keepsLamp_handOn later _ _)

theorem keepsLamp_countError (errored : Bool) (s : State) : KeepsLamp s (countError errored s) := by
  unfold countError
  dsimp only
  split <;> exact .aside rfl

theorem keepsLamp_takePacket (p : Packet) (u later : Bool) (s : State) : KeepsLamp s (takePacket p u later s) := by
  have tallied (e : Bool) : KeepsLamp s (tallied e s) := .aside rfl
  unfold takePacket
  split
  case h_1 => exact ((tallied _).trans (keepsLamp_lookup later _ _)).trans (keepsLamp_countError _ _)
  case h_2 => exact keepsLamp_countError _ s
  all_goals exact .refl s

theorem keepsLamp_packetEvent (p : Packet) (report : PacketReport) (s : State) : KeepsLamp s (packetEvent p report s) := by
  have taken := (keepsLamp_settleRecord s).trans (keepsLamp_takePacket p report.uncorrectable report.recordLater _)
  unfold packetEvent
  dsimp only
  split
  · exact taken
  · exact taken.trans (keepsLamp_settleBurst _)

/-! ## Timers (R67, R111, R114, R115, R130) -/

theorem keepsLamp_challenge (s : State) : KeepsLamp s (challenge s) := by
  have takes : KeepsLamp s (changeRole .taking (requestTake s.pru.smoothed (leadAnchor s.hbu) s)) :=
    keepsLamp_changeRole .taking rfl
  exact takes.trans (.aside rfl)

theorem keepsLamp_challengeTest (s : State) : KeepsLamp s (challengeTest s) := by
  have cleared : KeepsLamp s (clearChallenge s) := .aside rfl
  unfold challengeTest
  split
  · split
    · exact cleared
    · split
      · split
        · exact keepsLamp_challenge s
        · exact .aside rfl
      · exact cleared
  · exact cleared

theorem keepsLamp_periodicDecision (s : State) : KeepsLamp s (periodicDecision s) := by
  unfold periodicDecision standbyDecision ownerDecision
  split
  case h_1 =>
    split
    · exact keepsLamp_enterOwner _ s
    · exact keepsLamp_challengeTest s
  case h_2 =>
    split
    · split
      · exact .refl s
      · exact keepsLamp_yieldWith _ _ s
    · exact .refl s
  all_goals exact .refl s

theorem keepsLamp_ownershipExpiry (s : State) : KeepsLamp s (ownershipExpiry s) := by
  have aged : KeepsLamp s (recordMark (ageView s)) := .aside rfl
  exact (aged.trans (keepsLamp_periodicDecision _)).trans (.aside rfl)

theorem keepsLamp_takeExpiry (b : Bool) (s : State) : KeepsLamp s (takeExpiry b s) := by
  have closed : KeepsLamp s (closePeriods s) := .aside rfl
  have shared (u : State) : KeepsLamp u (shareExpiry u) := .aside rfl
  unfold takeExpiry
  dsimp only
  split
  · exact (closed.trans (shared _)).trans (keepsLamp_ownershipExpiry _)
  · exact (closed.trans (keepsLamp_ownershipExpiry _)).trans (shared _)

theorem keepsLamp_handoverDecision (s : State) : KeepsLamp s (handoverDecision s) := by
  unfold handoverDecision
  split
  · split
    · exact keepsLamp_giveUpTake .standby s
    · exact keepsLamp_ite (keepsLamp_enterOwner _ s)
  · exact .refl s

theorem keepsLamp_endClashHold (s : State) : KeepsLamp s (endClashHold s) := by
  have ended : KeepsLamp s (refreshLamp { s with ri := { s.ri with clashHold := none } }) :=
    keepsLamp_refreshLamp (.of_iu rfl)
  exact ended.trans (keepsLamp_attempt _)

/-! ## The riser line and the station's own frames (R90 to R102) -/

theorem keepsLamp_joinFrame (s : State) : KeepsLamp s (joinFrame s) := by
  unfold joinFrame
  split <;> exact .aside rfl

theorem keepsLamp_winFrame (sel : Selection) (s : State) : KeepsLamp s (winFrame sel s) := by
  unfold winFrame
  split
  case h_1 => exact .aside rfl
  case h_2 | h_3 => split <;> exact .aside rfl
  case h_4 c =>
    split
    · exact .aside rfl
    · cases c <;> exact .aside rfl

theorem keepsLamp_winArbitration (s : State) : KeepsLamp s (winArbitration s) := by
  unfold winArbitration
  split
  case h_1 => exact keepsLamp_winFrame _ s
  all_goals exact .refl s

theorem keepsLamp_loseArbitration (s : State) : KeepsLamp s (loseArbitration s) := by
  unfold loseArbitration
  split
  case h_1 => exact .aside rfl
  all_goals exact .refl s

theorem keepsLamp_mismatch (s : State) : KeepsLamp s (mismatch s) := by
  unfold mismatch
  split
  case h_1 => exact keepsLamp_addressClash s
  all_goals exact .refl s

theorem keepsLamp_frameSentEffect (f : Frame) (s : State) : KeepsLamp s (frameSentEffect f s) := by
  unfold frameSentEffect
  split
  case h_1 => exact .aside rfl
  case h_2 => exact keepsLamp_ite (.aside rfl)
  case h_3 => exact keepsLamp_endYield s
  case h_4 h _ =>
    have sent : KeepsLamp s { s with ri := { s.ri with lastSent := some h.signature } } := .aside rfl
    exact sent.trans (keepsLamp_ite (keepsLamp_drainOffer _))

theorem keepsLamp_completeFrame (s : State) : KeepsLamp s (completeFrame s) := by
  have stopped : KeepsLamp s (stopDriving s) := .aside rfl
  unfold completeFrame
  split
  case h_1 f _ => exact stopped.trans (keepsLamp_frameSentEffect f _)
  all_goals exact .refl s

/-! ## Frames heard (R107 to R109, R117, R119, R126, R128, R129, R133, R134, R143) -/

theorem keepsLamp_dispatchStatus (f : StatusFrame) (s : State) : KeepsLamp s (dispatchStatus f s) := by
  have joined : KeepsLamp s (mapPeers (viewAfterStatus f) s) := .aside rfl
  unfold dispatchStatus answerOwner
  dsimp only
  split
  · refine joined.trans ?_
    split
    case h_1 => exact keepsLamp_ite (keepsLamp_giveUpTake _ _)
    case h_2 =>
      split
      · exact keepsLamp_yieldWith _ _ _
      · exact .aside rfl
    all_goals exact .refl _
  · exact joined

theorem keepsLamp_dispatchTake (f : TakeFrame) (s : State) : KeepsLamp s (dispatchTake f s) := by
  have shown : KeepsLamp s (mapPeers (takingShown f) s) := .aside rfl
  unfold dispatchTake answerTake
  dsimp only
  split
  · split
    · exact shown.trans (keepsLamp_yieldWith _ _ _)
    · exact .aside rfl
  · exact shown

theorem keepsLamp_answerYield (f : YieldFrame) (s : State) : KeepsLamp s (answerYield f s) := by
  have owns (p : Prop) [Decidable p] : KeepsLamp s (if p then enterOwner f.lastSignature s else s) :=
    keepsLamp_ite (keepsLamp_enterOwner _ s)
  unfold answerYield takerHearsYield standbyHearsYield
  split
  case h_1 =>
    split
    · exact owns _
    · split
      · exact owns _
      · exact keepsLamp_giveUpTake _ s
  case h_2 => exact owns _
  all_goals exact .refl s

theorem keepsLamp_dispatchYield (f : YieldFrame) (s : State) : KeepsLamp s (dispatchYield f s) := by
  have shown : KeepsLamp s (mapPeers (yieldShown f) s) := .aside rfl
  by_cases hg : f.group = s.cfg.group
  · rw [dispatchYield_own hg]
    exact shown.trans (keepsLamp_answerYield f _)
  · rw [dispatchYield_other hg]
    exact shown

theorem matchPayload_phase (g : Signature) (h : HoldBack) : (matchPayload g h).phase = h.phase := by
  unfold matchPayload
  split
  · rfl
  · split <;> rfl

theorem keepsLamp_dispatchPayload (h : PayloadHeader) (s : State) : KeepsLamp s (dispatchPayload h s) := by
  have heard : KeepsLamp s (holdBackHears h s) :=
    keepsLamp_ite (.aside (by simp [lampFigures, matchPayload_phase]))
  unfold dispatchPayload
  split
  · exact heard.trans (.aside rfl)
  · exact .aside rfl

theorem keepsLamp_ownAddressHeard (s : State) : KeepsLamp s (ownAddressHeard s) := keepsLamp_ite (keepsLamp_addressClash s)

theorem keepsLamp_receive (good : Bool) (a : Address) {f : State → State} (hf : ∀ s, KeepsLamp s (f s)) (s : State) :
    KeepsLamp s (receive good a f s) := by
  have busy : KeepsLamp s (setView .busy s) := .aside rfl
  unfold receive
  dsimp only
  split
  · split
    · exact busy.trans (keepsLamp_ownAddressHeard _)
    · exact busy.trans (keepsLamp_ite (hf _))
  · exact .aside rfl

theorem keepsLamp_errorEvent (bytes : List Byte) (s : State) : KeepsLamp s (errorEvent bytes s) := by
  unfold errorEvent
  split
  · exact .aside rfl
  · exact .refl s

theorem keepsLamp_ownAddressEvent (bytes : List Byte) (s : State) : KeepsLamp s (ownAddressEvent bytes s) := by
  have busy : KeepsLamp s (setView .busy s) := .aside rfl
  unfold ownAddressEvent
  split
  · exact .refl s
  · exact keepsLamp_ite (busy.trans (keepsLamp_ownAddressHeard _))

/-! ## The configuration fetch (R178 to R187) -/

/-- A structural fault, or the completion of configuration, ends with the lamp's choice; the walk itself leaves its rows. -/
theorem keepsLamp_walkTo (a : Nat) {s u : State} (h : lampFigures u = lampFigures s) (hiu : u.iu = s.iu) :
    KeepsLamp s (walkTo a u) := by
  unfold walkTo endWalk
  split
  · split
    · exact keepsLamp_changeAcq .gain hiu
    · exact keepsLamp_refreshLamp (.of_iu hiu)
  · split
    · exact .aside h
    · exact keepsLamp_refreshLamp (.of_iu hiu)

theorem keepsLamp_takeHeader (data : List Byte) (s : State) : KeepsLamp s (takeHeader data s) := by
  unfold takeHeader
  split
  · exact keepsLamp_walkTo _ rfl rfl
  · exact keepsLamp_refreshLamp (.of_iu rfl)

theorem keepsLamp_takeRecordRead (a : Nat) (data : List Byte) (s : State) : KeepsLamp s (takeRecordRead a data s) := by
  unfold takeRecordRead keepRecord
  dsimp only
  split
  · exact keepsLamp_refreshLamp (.of_iu rfl)
  · split
    · exact keepsLamp_refreshLamp (.of_iu rfl)
    · exact keepsLamp_walkTo _ rfl rfl

theorem keepsLamp_recordReadEvent (data : List Byte) (s : State) : KeepsLamp s (recordReadEvent data s) := by
  unfold recordReadEvent
  split
  case h_1 => exact keepsLamp_ite (keepsLamp_takeRecordRead _ data s)
  all_goals exact .refl s

/-! ## The pins (R112, R113) -/

theorem keepsLamp_assertSilence (s : State) : KeepsLamp s (assertSilence s) := by
  have asserted : KeepsLamp s { s with silence := true } := .aside rfl
  unfold assertSilence
  split
  · exact .refl s
  · exact asserted.trans (keepsLamp_silenceStation _)

theorem keepsLamp_releaseSilence (s : State) : KeepsLamp s (releaseSilence s) := by
  have released : KeepsLamp s { s with silence := false } := .aside rfl
  exact keepsLamp_ite (released.trans (keepsLamp_attempt _))

/-! ## Every command -/

/-- A gated command keeps of the lamp what its effect keeps. -/
theorem keepsLamp_of_gated {f : State → State} {s t : State} (h : whenRunning f s = .next t) (hf : KeepsLamp s (f s)) :
    KeepsLamp s t := by
  unfold whenRunning at h
  split at h <;> cases h
  · exact .refl s
  · exact hf.trans (keepsLamp_takeWaiting _)

/-- Every command but RESET keeps the lamp, operation by operation. -/
theorem exec_keepsLamp {c : Instr} {s t : State} (hreset : c ≠ .reset) (h : exec c s = .next t) : KeepsLamp s t := by
  cases c with
  | reset => exact absurd rfl hreset
  | resetEnd straps =>
    rcases exec_resetEnd_next h with rfl | ⟨-, rfl⟩
    · exact .refl _
    · exact .aside rfl
  | resetEnableCommand =>
    exact keepsLamp_of_gated (show execResetEnableCommand s = .next t from h) (keepsLamp_ite (.aside rfl))
  | resetCommand => exact keepsLamp_of_gated (show execResetCommand s = .next t from h) (keepsLamp_ite (.aside rfl))
  | recoveryWaitEnd =>
    exact keepsLamp_of_gated (show execRecoveryWaitEnd s = .next t from h) (keepsLamp_ite (.aside rfl))
  | headerRead d =>
    exact keepsLamp_of_gated (show execHeaderRead d s = .next t from h) (keepsLamp_ite (keepsLamp_takeHeader d s))
  | recordRead d => exact keepsLamp_of_gated (show execRecordRead d s = .next t from h) (keepsLamp_recordReadEvent d s)
  | retryTimerExpiry =>
    exact keepsLamp_of_gated (show execRetryTimerExpiry s = .next t from h) (keepsLamp_ite (.aside rfl))
  | sample d =>
    have settled := (keepsLamp_settleSamples s).trans (keepsLamp_attempt _)
    exact keepsLamp_of_gated (show execSample d s = .next t from h) (settled.trans (keepsLamp_takeSample d _))
  | runEnd => exact keepsLamp_of_gated (show execRunEnd s = .next t from h) (keepsLamp_ite (.aside rfl))
  | overlongRun => exact keepsLamp_of_gated (show execOverlongRun s = .next t from h) (keepsLamp_ite (.aside rfl))
  | predictionMiss => exact keepsLamp_of_gated (show execPredictionMiss s = .next t from h) (keepsLamp_ite (.aside rfl))
  | gainMeasurement =>
    exact keepsLamp_of_gated (show execGainMeasurement s = .next t from h)
      ((keepsLamp_measureIfDue s).trans (keepsLamp_attempt _))
  | outputPeriodEnd =>
    refine keepsLamp_of_gated (show execOutputPeriodEnd s = .next t from h) (.aside ?_)
    unfold transferDuty
    split <;> rfl
  | trialEnd => exact keepsLamp_of_gated (show execTrialEnd s = .next t from h) (keepsLamp_endTrialIfDue s)
  | symbolBoundary b =>
    exact keepsLamp_of_gated (show execSymbolBoundary b s = .next t from h)
      ((keepsLamp_boundaryEvent b s).trans (keepsLamp_attempt _))
  | framePass => exact keepsLamp_of_gated (show execFramePass s = .next t from h) (keepsLamp_ite (keepsLamp_takePass s))
  | holdLimit =>
    exact keepsLamp_of_gated (show execHoldLimit s = .next t from h)
      (keepsLamp_ite ((keepsLamp_takeHoldLimit s).trans (keepsLamp_attempt _)))
  | merMeasurement mer b =>
    exact keepsLamp_of_gated (show execMerMeasurement mer b s = .next t from h)
      ((keepsLamp_boundaryBefore b s).trans (keepsLamp_ite (.aside rfl)))
  | profileUpdate peaks =>
    refine keepsLamp_of_gated (show execProfileUpdate peaks s = .next t from h) (keepsLamp_ite ?_)
    unfold takeUpdate
    split
    · exact .refl s
    · exact .aside rfl
  | syncFound b =>
    exact keepsLamp_of_gated (show execSyncFound b s = .next t from h)
      ((keepsLamp_boundaryBefore b s).trans (keepsLamp_takeSyncFound _))
  | frameCheck r =>
    exact keepsLamp_of_gated (show execFrameCheck r s = .next t from h)
      ((keepsLamp_takeFrameCheck r s).trans (keepsLamp_attempt _))
  | packetDecoded p r =>
    change execPacketDecoded p r s = .next t at h
    unfold execPacketDecoded at h
    split at h <;> cases h
    · exact .refl s
    · exact (keepsLamp_packetEvent p r s).trans (keepsLamp_attempt _)
  | reportExpiry b =>
    exact keepsLamp_of_gated (show execReportExpiry b s = .next t from h)
      (keepsLamp_ite ((keepsLamp_takeExpiry b s).trans (keepsLamp_attempt _)))
  | admissionTick => exact keepsLamp_of_gated (show execAdmissionTick s = .next t from h) (keepsLamp_ite (.aside rfl))
  | handoverTimerExpiry =>
    have stopped : KeepsLamp s (stopHandover s) := .aside rfl
    exact keepsLamp_of_gated (show execHandoverTimerExpiry s = .next t from h)
      (keepsLamp_ite ((stopped.trans (keepsLamp_handoverDecision _)).trans (keepsLamp_attempt _)))
  | suspensionHoldEnd n => exact keepsLamp_of_gated (show execSuspensionHoldEnd n s = .next t from h) (.aside rfl)
  | addressClashHoldEnd =>
    exact keepsLamp_of_gated (show execAddressClashHoldEnd s = .next t from h) (keepsLamp_ite (keepsLamp_endClashHold s))
  | busIdle =>
    have idle : KeepsLamp s (lineIdle s) := .aside rfl
    exact keepsLamp_of_gated (show execBusIdle s = .next t from h) (keepsLamp_ite (idle.trans (keepsLamp_attempt _)))
  | startBit => exact keepsLamp_of_gated (show execStartBit s = .next t from h) (keepsLamp_ite (keepsLamp_joinFrame s))
  | arbitrationWon => exact keepsLamp_of_gated (show execArbitrationWon s = .next t from h) (keepsLamp_winArbitration s)
  | arbitrationLost => exact keepsLamp_of_gated (show execArbitrationLost s = .next t from h) (keepsLamp_loseArbitration s)
  | readbackMismatch => exact keepsLamp_of_gated (show execReadbackMismatch s = .next t from h) (keepsLamp_mismatch s)
  | frameSent => exact keepsLamp_of_gated (show execFrameSent s = .next t from h) (keepsLamp_completeFrame s)
  | statusReceived f =>
    exact keepsLamp_of_gated (show execStatusReceived f s = .next t from h)
      (keepsLamp_receive _ _ (keepsLamp_dispatchStatus f) s)
  | takeReceived f =>
    exact keepsLamp_of_gated (show execTakeReceived f s = .next t from h)
      (keepsLamp_receive _ _ (keepsLamp_dispatchTake f) s)
  | yieldReceived f =>
    exact keepsLamp_of_gated (show execYieldReceived f s = .next t from h)
      (keepsLamp_receive _ _ (keepsLamp_dispatchYield f) s)
  | payloadReceived f =>
    exact keepsLamp_of_gated (show execPayloadReceived f s = .next t from h)
      (keepsLamp_receive _ _ (keepsLamp_dispatchPayload f) s)
  | receiveError b => exact keepsLamp_of_gated (show execReceiveError b s = .next t from h) (keepsLamp_errorEvent b s)
  | ownAddressFrame b =>
    exact keepsLamp_of_gated (show execOwnAddressFrame b s = .next t from h) (keepsLamp_ownAddressEvent b s)
  | silenceAssert =>
    change execSilenceAssert s = .next t at h
    unfold execSilenceAssert at h
    split at h
    · cases h
      exact .aside rfl
    · exact keepsLamp_of_gated h (keepsLamp_assertSilence s)
  | silenceRelease =>
    change execSilenceRelease s = .next t at h
    unfold execSilenceRelease at h
    split at h
    · cases h
      exact .aside rfl
    · exact keepsLamp_of_gated h (keepsLamp_releaseSilence s)
  | handoverFlashEnd => exact keepsLamp_of_gated (show execHandoverFlashEnd s = .next t from h) (.aside rfl)

/-- Settles O59: RESET shows the pattern of the reset state, and every other command keeps the lamp. -/
theorem stepKeepsLampPattern : Obligations.StepKeepsLampPattern := by
  refine ⟨fun s t hs h => ?pattern, fun c s t hreset h => ?cycles⟩
  case pattern =>
    rcases step_next h with rfl | ⟨c, rest, hc⟩
    · exact hs
    · by_cases hreset : c = .reset
      · subst hreset
        rw [exec_reset_next hc]
        rfl
      · exact (exec_keepsLamp hreset hc).pattern hs
  case cycles =>
    have kept := (exec_keepsLamp hreset h).cycles
    exact ⟨kept.le, kept.stands⟩

end Sys2Proof.Machine

/-! # Proofs: RESET held low (R189, R192, R193) -/

namespace Sys2Proof.Machine

/-- With RESET low no command but the reset commands and the SILENCE pair changes anything (R193). -/
theorem exec_low_same {c : Instr} {s : State} (hlow : s.resetLow = true) (hreset : c ≠ .reset)
    (hend : ∀ straps, c ≠ .resetEnd straps) (hassert : c ≠ .silenceAssert) (hrelease : c ≠ .silenceRelease) :
    exec c s = .next s := by
  unfold exec
  cases c
  case reset => exact absurd rfl hreset
  case resetEnd straps => exact absurd rfl (hend straps)
  case silenceAssert => exact absurd rfl hassert
  case silenceRelease => exact absurd rfl hrelease
  case packetDecoded p r => exact if_pos hlow
  all_goals exact whenRunning_low hlow

/-- Settles O2: `heldAtReset` is the reset state but for what lies outside the blocks, and the gate lets nothing through. -/
theorem resetPinHoldsStation : Obligations.ResetPinHoldsStation := by
  refine ⟨fun s => ⟨heldAtReset s, rfl, rfl, rfl, rfl, fun n => rfl⟩, fun s hlow => ⟨if_pos hlow, if_pos hlow,
    fun c => exec_low_same hlow, fun straps => ⟨leaveReset straps s, if_pos hlow, rfl, rfl, fun hs => ?_⟩⟩⟩
  exact allowedFrame_cut fun hfree => Bool.noConfusion (hs.symm.trans hfree.1)

end Sys2Proof.Machine

/-! # Proofs: LAMP's patterns and the handover flash (R188, R189, R191) -/

namespace Sys2Proof.Machine

/-! ## The pattern and the level (R188, R189, R191) -/

/-- The first row of R189. -/
theorem basePattern_doubleFlash_iff {s : State} :
    basePattern s = .doubleFlash ↔ s.loader.state = .configFault ∨ s.ri.clashHold ≠ none := by
  rw [← Option.isSome_iff_ne_none]
  unfold basePattern
  split
  case isTrue h => exact iff_of_true rfl h
  case isFalse h =>
    refine iff_of_false ?_ h
    repeat' split
    all_goals exact nofun

/-- While a flash runs the lamp shows the inverse of its pattern (R191). -/
theorem lampHigh_eq (s : State) (n : Nat) :
    lampHigh s n = if s.iu.flash = none then patternLit s.iu.pattern n else !patternLit s.iu.pattern n := by
  unfold lampHigh
  cases s.iu.flash <;> simp

/-! ## Flashes (R191) -/

/-- Away from the double flash the lamp's choice leaves a flash as it runs. -/
theorem refreshLamp_flash_runs {s : State} (h : basePattern s ≠ .doubleFlash) : (refreshLamp s).iu.flash = s.iu.flash := by
  unfold refreshLamp
  rw [if_neg h]
  split <;> rfl

/-- A flash starts at the pattern just chosen, unless that is the double flash. -/
theorem startFlash_refreshLamp {s : State} (h : basePattern s ≠ .doubleFlash) :
    (startFlash (refreshLamp s)).iu.flash = some 250 := by
  rw [← refreshLamp_pattern] at h
  rw [startFlash, if_neg h]

/-- What the first row of R189 reads is the same, so that the double flash stands in both states or in neither. -/
theorem basePattern_doubleFlash_congr {s t : State} (hstate : t.loader = s.loader)
    (hhold : t.ri.clashHold = s.ri.clashHold) : basePattern t = .doubleFlash ↔ basePattern s = .doubleFlash := by
  rw [basePattern_doubleFlash_iff, basePattern_doubleFlash_iff, hstate, hhold]

theorem roleChanged_doubleFlash (r : Role) (s : State) :
    basePattern (roleChanged r s) = .doubleFlash ↔ basePattern s = .doubleFlash := by
  obtain ⟨-, -, hhold, -⟩ := riserLeavesOwner_riser r (setRole r s)
  unfold roleChanged
  dsimp only
  split
  · exact basePattern_doubleFlash_congr (by simp) hhold
  · exact basePattern_doubleFlash_congr rfl rfl

/-- A departure from OWNER starts a flash; a change between other roles leaves the flash. -/
theorem changeRole_flash (r : Role) {s : State} (h : basePattern s ≠ .doubleFlash) :
    (changeRole r s).iu.flash = if s.ou.role = .owner then some 250 else s.iu.flash := by
  have hchosen : basePattern (roleChanged r s) ≠ .doubleFlash := mt (roleChanged_doubleFlash r s).mp h
  rw [changeRole_lamp]
  split
  · exact startFlash_refreshLamp hchosen
  · rw [refreshLamp_flash_runs hchosen, roleChanged_iu]

/-- Under the double flash a change of role leaves the lamp: no flash starts. -/
theorem changeRole_doubleFlash (r : Role) {s : State} (hshown : s.iu.pattern = .doubleFlash)
    (h : basePattern s = .doubleFlash) : (changeRole r s).iu = s.iu := by
  have hiu := roleChanged_iu r s
  have hpattern : (roleChanged r s).iu.pattern = .doubleFlash := by rw [hiu, hshown]
  have hstands : refreshLamp (roleChanged r s) = roleChanged r s :=
    if_pos (((roleChanged_doubleFlash r s).mpr h).trans hpattern.symm)
  rw [changeRole_lamp, hstands, startFlash, if_pos hpattern, ite_self, hiu]

theorem offerEntries_clashHold (n : Nat) (s : State) : (offerEntries n s).ri.clashHold = s.ri.clashHold := by
  induction n generalizing s with
  | zero => rfl
  | succ n ih =>
    unfold offerEntries
    split
    · rfl
    · split
      · exact (ih _).trans (admitEntry_clashHold _ _)
      · exact (ih _).trans (by simp [countDrop])
      · rfl

theorem drainOffer_clashHold (s : State) : (drainOffer s).ri.clashHold = s.ri.clashHold := by
  unfold drainOffer
  dsimp only
  split
  · simpa using offerEntries_clashHold 2 s
  · exact offerEntries_clashHold 2 s

theorem firstOffer_clashHold (s : State) : (firstOffer s).ri.clashHold = s.ri.clashHold := by
  unfold firstOffer
  split
  · exact drainOffer_clashHold s
  · rfl

/-- The entry into OWNER starts a flash, unless the double flash stands. -/
theorem enterOwner_flash (a : Option Signature) {s : State} (h : basePattern s ≠ .doubleFlash) :
    (enterOwner a s).iu.flash = some 250 := by
  have hloader : (enterOwner a s).loader = s.loader := by simp
  have hchosen : basePattern (requestStatus (firstOffer (newOwner a s))) = .doubleFlash ↔ basePattern s = .doubleFlash :=
    basePattern_doubleFlash_congr (by simpa [enterOwner_newOwner] using hloader) (firstOffer_clashHold _)
  rw [enterOwner_newOwner]
  exact startFlash_refreshLamp (mt hchosen.mp h)

/-- At the beginning of an address clash hold the double flash is chosen, and a flash that runs ends (R189, R191). -/
theorem clashHeld_lamp {s : State} (h : s.iu.pattern = .doubleFlash → s.iu.flash = none) :
    (clashHeld s).iu.pattern = .doubleFlash ∧ (clashHeld s).iu.flash = none := by
  have hbase : basePattern { lineCut s with
      ri := { (lineCut s).ri with clashFlag := true, clashCarried := false, clashHold := some 2000 } } = .doubleFlash :=
    basePattern_doubleFlash_iff.mpr (.inr nofun)
  have hiu : (lineCut s).iu = s.iu := by simp [lineCut]
  refine ⟨(refreshLamp_pattern _).trans hbase, ?_⟩
  rw [clashHeld, refreshLamp_flash hbase, hiu]
  split
  · exact h ‹_›
  · rfl

/-- The fall of the role at an address clash leaves the lamp (R110, R191). -/
theorem addressClash_iu (s : State) : (addressClash s).iu = (clashHeld s).iu := by
  have hbase : basePattern (clashHeld s) = .doubleFlash :=
    basePattern_doubleFlash_iff.mpr (.inr (by rw [clashHeld_ri]; exact nofun))
  have hshown : (clashHeld s).iu.pattern = .doubleFlash := by
    rw [← hbase, clashHeld, refreshLamp_pattern, refreshLamp_basePattern]
  rw [addressClash_eq]
  rcases falls_or_stays (clashHeld s).ou.role with hr | hr
  · rw [fallRole_falls hr]
    exact changeRole_doubleFlash _ (s := stopHandover (clashHeld s)) hshown hbase
  · rw [fallRole_stays hr]
    rfl

/-! ## Flashes at the role's changes (R128, R126, R130, R191) -/

section
variable {s : State} (h : basePattern s ≠ .doubleFlash)
include h

/-- A taker that a YIELD makes OWNER starts a flash (R128, R191). -/
theorem dispatchYield_flash {f : YieldFrame} (hg : f.group = s.cfg.group) (hmay : mayTransmit s = true)
    (hf : yieldOwns f s) : (dispatchYield f s).ou.role = .owner ∧ (dispatchYield f s).iu.flash = some 250 := by
  let viewed := mapPeers (yieldShown f) s
  have howns : answerYield f viewed = enterOwner f.lastSignature viewed := answerYield_owns hmay hf
  obtain ⟨hou, -⟩ := enterOwner_spec f.lastSignature viewed
  rw [dispatchYield_own hg, howns]
  exact ⟨by rw [hou], enterOwner_flash _ (s := viewed) h⟩

/-- An owner that a TAKE of greater merit makes yield starts a flash (R126, R191). -/
theorem dispatchTake_flash {f : TakeFrame} (hg : f.group = s.cfg.group) (ho : s.ou.role = .owner)
    (hm : s.pru.smoothed < f.merit) :
    (dispatchTake f s).ou.role = .yielding ∧ (dispatchTake f s).iu.flash = some 250 := by
  let viewed := mapPeers (takingShown f) s
  have hyields : answerTake f viewed = yieldWith (some f.sender) .challenged viewed := if_pos hm
  obtain ⟨hou, -⟩ := yieldWith_owner (some f.sender) .challenged (s := viewed) ho
  rw [dispatchTake_owner hg ho, hyields]
  refine ⟨by rw [hou], ?_⟩
  rw [yieldWith, changeRole_flash .yielding (s := requestYield (some f.sender) .challenged viewed) h]
  exact if_pos ho

/-- A take that a rival OWNER ends leaves the flash (R130, R191). -/
theorem handoverDecision_flash (ht : s.ou.role = .taking) (hrival : ∃ p ∈ s.ou.peers, rivalOwning s p) :
    (handoverDecision s).ou.role = .standby ∧ (handoverDecision s).iu.flash = s.iu.flash := by
  have hne : (stopHandover (withdrawTake s)).ou.role ≠ .owner := by simp [ht]
  obtain ⟨hou, -⟩ := giveUpTake_standby ht
  rw [handoverDecision, if_pos ht, if_pos (rivalOwner_isSome.mpr hrival)]
  refine ⟨by rw [hou], ?_⟩
  rw [giveUpTake, changeRole_flash .standby (s := stopHandover (withdrawTake s)) h]
  exact if_neg hne

end

/-! ## O42 -/

/-- Settles O42: the rows and the patterns by their definitions, the flashes by the role's changes. -/
theorem lampShowsPatternsAndFlash : Obligations.LampShowsPatternsAndFlash := by
  refine ⟨fun s => ?rows, fun n => ?lit, fun s n => ?high, fun s hr hc hhold => ?flash, fun f s hr htx hflash => ?clash⟩
  case rows =>
    refine ⟨basePattern_doubleFlash_iff.mpr, fun hf hlive => ?_, fun hf hlive hhand => ?_, fun hf hlive hhand hstand => ?_,
      fun hf hlive hhand hstand hseek => ?_, fun hf hlive hhand hstand hseek => ?_⟩
    all_goals
      rw [← Option.isSome_iff_ne_none] at hf
      rw [basePattern, if_neg hf]
    · rw [if_pos hlive]
    · rw [if_neg hlive, if_pos hhand]
    · rw [if_neg hlive, if_neg hhand, if_pos hstand]
    · rw [if_neg hlive, if_neg hhand, if_neg hstand, if_pos hseek]
    · rw [if_neg hlive, if_neg hhand, if_neg hstand, if_neg hseek]
  case lit => simp [patternLit]
  case high =>
    rw [lampHigh_eq]
    exact ⟨fun h => if_pos h, fun h => if_neg h⟩
  case flash =>
    have hbase : basePattern s ≠ .doubleFlash := by simp [basePattern_doubleFlash_iff, hc, hhold]
    refine ⟨fun f ha hg hs ht hf => ⟨_, exec_yieldReceived hr hc ha, ?_⟩,
      fun f hwf ha hg ho hm => ⟨_, exec_takeReceived hr hc hwf ha, ?_⟩,
      fun n ht hn hrival => ⟨_, exec_handoverTimerExpiry hr hn, ?_⟩⟩
    · exact dispatchYield_flash (s := setView .busy s) hbase hg (mayTransmit_iff.mpr ⟨hs, hhold⟩) (.inl ⟨ht, hf.symm⟩)
    · exact dispatchTake_flash (s := setView .busy s) hbase hg ho hm
    · simpa using handoverDecision_flash (s := stopHandover s) hbase ht hrival
  case clash =>
    obtain ⟨hpattern, hended⟩ := clashHeld_lamp hflash
    rw [← addressClash_iu] at hpattern hended
    exact ⟨_, exec_readbackMismatch hr htx, hpattern, hended, fun n => by rw [lampHigh_eq, hpattern, if_pos hended]⟩

end Sys2Proof.Machine

/-! # Proofs: the queue of commands (assumption log 1) -/

namespace Sys2Proof.Machine

/-- The front command is run on the state that keeps only the queue's rest. -/
theorem step_of_pending_cons {c : Instr} {rest : List Instr} {s : State} (h : s.pending = c :: rest) :
    step s = exec c { s with pending := rest } := by
  rw [step, h]

/-- An empty queue idles. -/
theorem step_of_pending_nil {s : State} (h : s.pending = []) : step s = .next s := by
  rw [step, h]

/-- Settles O1, by the two forms of the queue. -/
theorem stepRunsFrontCommandOrIdles : Obligations.StepRunsFrontCommandOrIdles :=
  ⟨fun _ _ _ => step_of_pending_cons, fun _ => step_of_pending_nil⟩

end Sys2Proof.Machine
